-- ==== Sys2Proof/Word.lean ====
section
/-! DEFINITION. The bit vectors the spec gives the core (R6, R9): every value is an unsigned bit vector of
fixed width, numbered LSB-0 (R8). -/

namespace Sys2Proof

/-- One S-box operand or result (R6, SBOX_WIDTH). -/
abbrev Nibble := BitVec 4

/-- A plaintext, ciphertext, cipher state or round key (R6, BLOCK_WIDTH). -/
abbrev Block := BitVec 64

/-- A master key or key-register value: bits 79..16 are `high`, bits 15..0 are `low` (R6, R17). -/
abbrev Key := BitVec 80

/-- The `low` component of a key, the port `key_low` (R15). -/
abbrev KeyLow := BitVec 16

/-- The round counter (R6, ROUND_COUNTER_WIDTH). -/
abbrev Counter := BitVec 5

/-- The control word `cw` of present_round_pipeline (R56). -/
abbrev PipeCw := BitVec 8

/-- The control word `kcw` of present_key_scheduler (R58). -/
abbrev KsCw := BitVec 3

/-- A word of the harness (R6, HARNESS_WORD_WIDTH). -/
abbrev HarnessWord := BitVec 32

/-- The 32 round keys: the length is part of the type, so that a schedule of another length cannot be
written down (R112, R141). -/
abbrev Schedule := Vector Block 32

/-- A data register or a value computed from one. `held = false` is the spec's ⊥ ("no value": not written
since the last reset, 00_scope.md section 5). The register holds some bits even then: `value` is a free
value of `Config`, or computed from one, and no claim may rest on it (R23, U1; log 1). -/
structure Reg (w : Nat) where
  value : BitVec w
  held : Bool
  deriving DecidableEq, Repr

end Sys2Proof
end

