-- ==== Sys2Proof/Config.lean ====
section
/-! DEFINITION. What an implementation fixes: the core's parameters (R6), the values the spec leaves open
(opaque, R23, U1, U2), and the harness address map as a type of argument (R49, D15). -/

namespace Sys2Proof

namespace Config

/-! ## Fixed parameters (R6) -/

/-- NUM_ROUND_KEYS. -/
def numRoundKeys : Nat := 32

/-- NUM_ROUNDS: full rounds before the final whitening. -/
def numRounds : Nat := 31

/-- SBOX_LANES. -/
def sboxLanes : Nat := 16

/-- ROUND_COUNTER_POSITION: the lowest of the key-register bits 19..15 the counter is XORed into. -/
def counterPosition : Nat := 15

/-! ## Free values

Each is applied to the counter `State.freeCount`, so that two resets need not leave the same bits, and to what the
register held before, so that an implementation that keeps the old value is among those covered (R23: "It may
clear the register or keep the old value; the spec does not say which"). DESIGN CHOICE in form, log 1. -/

/-- What `state_reg` holds after a PIPE_RESET (R120: `state_reg <- ⊥`). -/
opaque freeStateReg : Nat → Block → Block

/-- What `ct_reg` holds after a PIPE_RESET (R120: `ct_reg <- ⊥`). -/
opaque freeCtReg : Nat → Block → Block

/-- What `key_reg` of the embedded scheduler holds after a PIPE_RESET (R120, R95: `key_reg <- ⊥`). -/
opaque freeKeyReg : Nat → Key → Key

/-- What `key_reg` of the standalone scheduler holds after a KS_RESET (R95: `key_reg <- ⊥`). -/
opaque freeSchedKeyReg : Nat → Key → Key

/-- What a register holds before the first reset (R161: "every register of the core holds ⊥"). A read of STATUS shows this
bit there (log 15). -/
opaque powerOnBusy : Bool

/-- See `powerOnBusy`. -/
opaque powerOnDone : Bool

/-- See `powerOnBusy`. -/
opaque powerOnRc : Counter

/-- See `powerOnBusy`. -/
opaque powerOnStateReg : Block

/-- See `powerOnBusy`. -/
opaque powerOnCtReg : Block

/-- See `powerOnBusy`. -/
opaque powerOnKeyReg : Key

/-- See `powerOnBusy`. -/
opaque powerOnSchedKeyReg : Key

end Config

/-- The open parameter REG_MAP: where the harness's bus puts its nine words. No source gives an address, so a
model "that needs addresses takes it as an argument" (R49, D15). -/
structure RegMap where
  status : Nat
  config : Nat
  key0 : Nat
  key1 : Nat
  key2 : Nat
  pt0 : Nat
  pt1 : Nat
  ct0 : Nat
  ct1 : Nat
  deriving DecidableEq, Repr

end Sys2Proof
end

