-- ==== Sys2Proof/Syntax.lean ====
section
/-! DEFINITION. The operations of spec/opcode_table.json, one constructor a row, with the operands the row
takes from the instruction's word or from its own inputs (registers are read from the state). -/

namespace Sys2Proof

/-- The four formats: every operation belongs to exactly one (R55). -/
inductive Format where
  | pipeCw
  | ksCw
  | comb
  | func
  deriving DecidableEq, Repr

/-- One operation of the opcode table. -/
inductive Instr where
  /-- PIPE_RESET (R120). -/
  | pipeReset
  /-- PIPE_BADSTATE (R62, R131). -/
  | pipeBadstate
  /-- PIPE_LAST (R125); `rc = 31` is part of its pattern. -/
  | pipeLast
  /-- PIPE_ROUND (R123): `rc` is the field `rrrrr` = cw[4:0] of its pattern, the register `rc` of R56. -/
  | pipeRound (rc : Counter)
  /-- PIPE_LOAD (R122): the three data inputs, sampled at its edge. -/
  | pipeLoad (keyHigh : Block) (keyLow : KeyLow) (plaintext : Block)
  /-- PIPE_IDLE (R121). -/
  | pipeIdle
  /-- KS_RESET (R95). -/
  | ksReset
  /-- KS_LOAD (R96): the two key inputs. -/
  | ksLoad (keyHigh : Block) (keyLow : KeyLow)
  /-- KS_ADVANCE (R97): the `rc` input. -/
  | ksAdvance (rc : Counter)
  /-- KS_HOLD (R98). -/
  | ksHold
  /-- SBOX4 (R71). -/
  | sbox4 (x : Nibble)
  /-- SBOX_LAYER (R72). -/
  | sboxLayer (dIn : Block)
  /-- P_LAYER (R82). -/
  | pLayer (dIn : Block)
  /-- KS_ROUND_KEY (R101), an output of the standalone scheduler's `key_reg`. -/
  | ksRoundKey
  /-- KS_NEXT_ROUND_KEY (R101), an output of the standalone scheduler's `key_reg` and its `rc` port. -/
  | ksNextRoundKey
  /-- KS_ROTL61 (R90). -/
  | ksRotl61 (k : Key)
  /-- KS_SUBTOP (R92). -/
  | ksSubtop (k : Key)
  /-- KS_MIXRC (R93). -/
  | ksMixrc (k : Key) (r : Counter)
  /-- KS_UPDATE (R94). -/
  | ksUpdate (k : Key) (r : Counter)
  /-- GENERATE_ROUND_KEYS (R100). -/
  | generateRoundKeys (key : Key)
  /-- ROUND_FN (R110). -/
  | roundFn (s rk : Block)
  /-- ENCRYPT (R111); the schedule's length is its type (R112). -/
  | encrypt (pt : Block) (ks : Schedule)
  /-- PRESENT80 (R113). -/
  | present80 (pt : Block) (key : Key)
  deriving DecidableEq, Repr

/-- The format of each operation (R55 and the table's `format` column). -/
def Instr.format : Instr → Format
  | .pipeReset | .pipeBadstate | .pipeLast | .pipeRound _ | .pipeLoad _ _ _ | .pipeIdle => .pipeCw
  | .ksReset | .ksLoad _ _ | .ksAdvance _ | .ksHold => .ksCw
  | .sbox4 _ | .sboxLayer _ | .pLayer _ | .ksRoundKey | .ksNextRoundKey => .comb
  | .ksRotl61 _ | .ksSubtop _ | .ksMixrc _ _ | .ksUpdate _ _ | .generateRoundKeys _ | .roundFn _ _
  | .encrypt _ _ | .present80 _ _ => .func

/-- What selects an operation at one instant. A clocked module is selected by its control word, with the levels on
its data inputs as operands (R55, R56, R58, R65). A COMB or FUNC operation has no selector (R61), so it is
named outright with its operands. -/
inductive Selection where
  | pipe (cw : PipeCw) (keyHigh : Block) (keyLow : KeyLow) (plaintext : Block)
  | ks (kcw : KsCw) (keyHigh : Block) (keyLow : KeyLow) (rc : Counter)
  | named (i : Instr)
  deriving DecidableEq, Repr

end Sys2Proof
end

