-- ==== Sys2Proof/WellFormed.lean ====
section
/-! DEFINITION. Which instructions can be encoded. Operand widths and the schedule's length are types; the one
check left is the counter field of PIPE_ROUND. -/

namespace Sys2Proof

/-- PIPE_ROUND's field is 1..30: 0 selects PIPE_BADSTATE and 31 selects PIPE_LAST, which come earlier in the
decode order (R57). Every other operand takes every value of its width (R63). -/
def Instr.wellFormed : Instr → Bool
  | .pipeRound rc => decide (1 ≤ rc.toNat) && decide (rc.toNat ≤ 30)
  | .pipeReset | .pipeBadstate | .pipeLast | .pipeLoad _ _ _ | .pipeIdle
  | .ksReset | .ksLoad _ _ | .ksAdvance _ | .ksHold
  | .sbox4 _ | .sboxLayer _ | .pLayer _ | .ksRoundKey | .ksNextRoundKey
  | .ksRotl61 _ | .ksSubtop _ | .ksMixrc _ _ | .ksUpdate _ _ | .generateRoundKeys _ | .roundFn _ _
  | .encrypt _ _ | .present80 _ _ => true

end Sys2Proof
end

