-- ==== Sys2Proof/Decode.lean ====
section
/-! DEFINITION. Control words, the two decode tables (R57, R59), decoding of a selection to an instruction, total and
rejecting by name, and the encoder written from the same tables. -/

namespace Sys2Proof

/-! ## Control words -/

/-- `cw`: bit 7 `rst`, bit 6 `start`, bit 5 `busy`, bits 4..0 `rc` (R56). -/
def pipeControlWord (rst start busy : Bool) (rc : Counter) : PipeCw :=
  BitVec.ofBool rst ++ BitVec.ofBool start ++ BitVec.ofBool busy ++ rc

/-- `kcw`: bit 2 `rst`, bit 1 `load`, bit 0 `advance` (R58). -/
def ksControlWord (rst load advance : Bool) : KsCw :=
  BitVec.ofBool rst ++ BitVec.ofBool load ++ BitVec.ofBool advance

/-! ## The decode tables -/

/-- One row of a decode table: the operation it selects, its `match` and its `mask`. -/
structure DecodeRow (w : Nat) (op : Type) where
  operation : op
  pattern : BitVec w
  mask : BitVec w
  deriving DecidableEq, Repr

/-- A row matches a control word when `(cw & mask) == match` (R57). -/
def DecodeRow.selects {w : Nat} {op : Type} (r : DecodeRow w op) (cw : BitVec w) : Bool :=
  cw &&& r.mask == r.pattern

/-- "A decoder tests the rows in the order below, and the first row whose `(cw & mask) == match` selects the
operation" (R57, R59). -/
def firstMatch {w : Nat} {op : Type} (table : List (DecodeRow w op)) (cw : BitVec w) : Option op :=
  match table with
  | [] => none
  | r :: rest => if r.selects cw then some r.operation else firstMatch rest cw

/-- The operations of format PIPE_CW. -/
inductive PipeOp where
  | reset | badstate | last | round | load | idle
  deriving DecidableEq, Repr

/-- The operations of format KS_CW. -/
inductive KsOp where
  | reset | load | advance | hold
  deriving DecidableEq, Repr

/-- R57's table, in its order. -/
def pipeTable : List (DecodeRow 8 PipeOp) :=
  [ ⟨.reset, 0x80, 0x80⟩,
    ⟨.badstate, 0x20, 0xBF⟩,
    ⟨.last, 0x3F, 0xBF⟩,
    ⟨.round, 0x20, 0xA0⟩,
    ⟨.load, 0x40, 0xE0⟩,
    ⟨.idle, 0x00, 0xE0⟩ ]

/-- R59's table, in its order. -/
def ksTable : List (DecodeRow 3 KsOp) :=
  [ ⟨.reset, 0b100, 0b100⟩,
    ⟨.load, 0b010, 0b110⟩,
    ⟨.advance, 0b001, 0b111⟩,
    ⟨.hold, 0b000, 0b111⟩ ]

/-! ## Decoding -/

/-- Why a selection is rejected. -/
inductive DecodeError where
  /-- No row of the table matches. R57 and R59 say both tables are exhaustive, so no control word is rejected so. -/
  | noRowMatches
  /-- A cycle operation was named outright. It is selected only by its control word (R55). -/
  | needsControlWord
  deriving DecidableEq, Repr

/-- What decoding answers: the instruction, or the reason for its rejection. -/
inductive Decoded where
  | instr (i : Instr)
  | rejected (e : DecodeError)
  deriving DecidableEq, Repr

/-- The instruction that present_round_pipeline's control word selects, with the levels on its data inputs as
operands of PIPE_LOAD (R56) and the field cw[4:0] as PIPE_ROUND's. -/
def decodePipe (cw : PipeCw) (keyHigh : Block) (keyLow : KeyLow) (plaintext : Block) : Decoded :=
  match firstMatch pipeTable cw with
  | some .reset => .instr .pipeReset
  | some .badstate => .instr .pipeBadstate
  | some .last => .instr .pipeLast
  | some .round => .instr (.pipeRound (cw.extractLsb' 0 5))
  | some .load => .instr (.pipeLoad keyHigh keyLow plaintext)
  | some .idle => .instr .pipeIdle
  | none => .rejected .noRowMatches

/-- The instruction that a standalone present_key_scheduler's control word selects, with the levels on its inputs
as operands of KS_LOAD and KS_ADVANCE (R58). -/
def decodeKs (kcw : KsCw) (keyHigh : Block) (keyLow : KeyLow) (rc : Counter) : Decoded :=
  match firstMatch ksTable kcw with
  | some .reset => .instr .ksReset
  | some .load => .instr (.ksLoad keyHigh keyLow)
  | some .advance => .instr (.ksAdvance rc)
  | some .hold => .instr .ksHold
  | none => .rejected .noRowMatches

/-- Decoding of any selection. A named operation must be one that has no selector (R61). -/
def decode : Selection → Decoded
  | .pipe cw keyHigh keyLow plaintext => decodePipe cw keyHigh keyLow plaintext
  | .ks kcw keyHigh keyLow rc => decodeKs kcw keyHigh keyLow rc
  | .named i =>
    match i.format with
    | .comb | .func => .instr i
    | .pipeCw | .ksCw => .rejected .needsControlWord

/-! ## Encoding -/

/-- The selection that gives an instruction: its row's `match`, with don't-care bits and unused operands 0 and
PIPE_ROUND's field in cw[4:0] (R57, R59, R61). -/
def encode : Instr → Selection
  | .pipeReset => .pipe 0x80 0 0 0
  | .pipeBadstate => .pipe 0x20 0 0 0
  | .pipeLast => .pipe 0x3F 0 0 0
  | .pipeRound rc => .pipe (0b001#3 ++ rc) 0 0 0
  | .pipeLoad keyHigh keyLow plaintext => .pipe 0x40 keyHigh keyLow plaintext
  | .pipeIdle => .pipe 0x00 0 0 0
  | .ksReset => .ks 0b100 0 0 0
  | .ksLoad keyHigh keyLow => .ks 0b010 keyHigh keyLow 0
  | .ksAdvance rc => .ks 0b001 0 0 rc
  | .ksHold => .ks 0b000 0 0 0
  | .sbox4 x => .named (.sbox4 x)
  | .sboxLayer dIn => .named (.sboxLayer dIn)
  | .pLayer dIn => .named (.pLayer dIn)
  | .ksRoundKey => .named .ksRoundKey
  | .ksNextRoundKey => .named .ksNextRoundKey
  | .ksRotl61 k => .named (.ksRotl61 k)
  | .ksSubtop k => .named (.ksSubtop k)
  | .ksMixrc k r => .named (.ksMixrc k r)
  | .ksUpdate k r => .named (.ksUpdate k r)
  | .generateRoundKeys key => .named (.generateRoundKeys key)
  | .roundFn s rk => .named (.roundFn s rk)
  | .encrypt pt ks => .named (.encrypt pt ks)
  | .present80 pt key => .named (.present80 pt key)

/-- The format a selection belongs to (R55). -/
def Selection.format : Selection → Format
  | .pipe _ _ _ _ => .pipeCw
  | .ks _ _ _ _ => .ksCw
  | .named i => i.format

/-! ## Words of spec/opcode_table.json -/

/-- The selection a table word of `nbits` bits stands for, its operands 0. Three bits are a `kcw` and eight are
a `cw`. Where the table's three bits arrive as a whole byte, the byte alone does not name its format: bytes 1..7,
which as a `cw` would be `busy = 0, rc != 0` (a state R26 rules out), are read as a `kcw`, and every other byte as a
`cw` (log 6). -/
def tableSelection (nbits w : Nat) : Option Selection :=
  if nbits = 3 then some (.ks (BitVec.ofNat 3 w) 0 0 0)
  else if nbits = 8 then
    if 1 ≤ w % 256 ∧ w % 256 ≤ 7 then some (.ks (BitVec.ofNat 3 w) 0 0 0)
    else some (.pipe (BitVec.ofNat 8 w) 0 0 0)
  else none

/-- The instruction the decoder reads from a table word. -/
def decodeTableWord (nbits w : Nat) : Option Instr :=
  match tableSelection nbits w with
  | none => none
  | some sel =>
    match decode sel with
    | .instr i => some i
    | .rejected _ => none

end Sys2Proof
end

