-- ==== Sys2Proof/Machine/State.lean ====
section
/-! DEFINITION. The state of the machine: every register and input port of 10_state.md, the harness's words, what the
environment will drive next, and the model's own result and free-value counter. Faults, refusals, reset. -/

namespace Sys2Proof.Machine

/-! ## Ports, harness words, stimulus lines -/

/-- The input ports of present_round_pipeline (R16); `clk` is the step itself. -/
structure PipePorts where
  rst : Bool
  start : Bool
  keyHigh : Block
  keyLow : KeyLow
  plaintext : Block
  deriving DecidableEq, Repr

/-- The input ports of present_key_scheduler (R15). -/
structure KsPorts where
  rst : Bool
  load : Bool
  advance : Bool
  keyHigh : Block
  keyLow : KeyLow
  rc : Counter
  deriving DecidableEq, Repr

/-- The nine words of the harness (R30 to R34). -/
inductive HarnessReg where
  | status | config | key0 | key1 | key2 | pt0 | pt1 | ct0 | ct1
  deriving DecidableEq, Repr

/-- The words the harness writes and the core reads (R35). STATUS, CT0 and CT1 are driven by the core and are
views of its registers. -/
structure Harness where
  config : HarnessWord
  key0 : HarnessWord
  key1 : HarnessWord
  key2 : HarnessWord
  pt0 : HarnessWord
  pt1 : HarnessWord
  deriving DecidableEq, Repr

/-- What the environment does for one step: one active edge of one clocked unit with the levels on its ports
(R66: "One line is one active clock edge"), or the evaluation of an operation that has no edge (log 4, log 7). -/
inductive Line where
  /-- An edge of the core, with these levels on its ports. -/
  | core (p : PipePorts)
  /-- An edge of the core, its ports driven from the harness words (R31 to R33) after these writes, in order. -/
  | bus (rst : Bool) (writes : List (HarnessReg × HarnessWord))
  /-- An edge of the standalone key scheduler, with these levels on its ports. -/
  | sched (p : KsPorts)
  /-- The evaluation of a COMB or FUNC operation. No edge. -/
  | eval (i : Instr)
  deriving DecidableEq, Repr

/-- What the last evaluated COMB or FUNC operation gave (log 7). -/
inductive Output where
  | nothing
  | nibble (v : Nibble)
  | block (v : Block)
  | key (v : Key)
  | schedule (v : Schedule)
  /-- A round-key output of the key scheduler: it carries the ⊥ marker of `key_reg` (R101). -/
  | roundKey (k : Reg 64)
  deriving DecidableEq, Repr

/-! ## The state -/

/-- The state. Reset values are in `State.reset`; the rule of each field is in INVENTORY.md. -/
structure State where
  /-- R20. -/
  busy : Bool
  /-- R21. -/
  done : Bool
  /-- R19. -/
  rc : Counter
  /-- R18. -/
  stateReg : Reg 64
  /-- R22. -/
  ctReg : Reg 64
  /-- R17, of the core's embedded key scheduler. -/
  keyReg : Reg 80
  /-- Whether the core has taken a PIPE_RESET edge; while it has not it is "unreset" (R161). -/
  coreReset : Bool
  /-- R17, of the standalone key scheduler (R15). -/
  schedKeyReg : Reg 80
  /-- Whether the standalone key scheduler has taken a KS_RESET edge (R161, log 5). -/
  schedReset : Bool
  /-- The levels last driven on the core's input ports (R16). -/
  pipeIn : PipePorts
  /-- The levels last driven on the standalone scheduler's input ports (R15). -/
  ksIn : KsPorts
  /-- R31 to R33, R35. -/
  harness : Harness
  /-- The model's own: the result of the last COMB or FUNC operation. -/
  output : Output
  /-- The model's own: the lines the environment has yet to drive, the next one first. -/
  stimulus : List Line
  /-- The model's own: how many resets have drawn free values. -/
  freeCount : Nat
  deriving DecidableEq, Repr

/-! ## Stops -/

/-- Why the machine stops with a fault. -/
inductive Fault where
  /-- Raised by PIPE_BADSTATE, the control state `rst = 0, busy = 1, rc = 0` that no operation gives a meaning to
  (R62, R131). Safe: no claim passes through it, and no run that has been reset reaches it. -/
  | badControlState
  deriving DecidableEq, Repr

/-- Why the machine refuses a step. -/
inductive Refusal where
  /-- Raised by no arm of `exec` as it stands: an instruction with no meaning yet. Safe. -/
  | notModelled (mnemonic : String)
  /-- Raised by `step` for an edge with `rst = 0` taken before the unit's first reset (R161, U2). Safe. -/
  | unresetEdge
  /-- Raised by `step` for a selection the decoder rejects: a cycle operation named in an `eval` line. Safe. -/
  | undecodable (e : DecodeError)
  deriving DecidableEq, Repr

/-! ## Reset -/

/-- The core's ports with every input at 0: the levels of a NOP with idle data inputs (R66, log 3). -/
def PipePorts.idle : PipePorts :=
  { rst := false, start := false, keyHigh := 0, keyLow := 0, plaintext := 0 }

/-- The standalone scheduler's ports with every input at 0: a KHOLD (R66, log 3). -/
def KsPorts.idle : KsPorts :=
  { rst := false, load := false, advance := false, keyHigh := 0, keyLow := 0, rc := 0 }

/-- The harness words at 0 (log 3). -/
def Harness.zero : Harness :=
  { config := 0, key0 := 0, key1 := 0, key2 := 0, pt0 := 0, pt1 := 0 }

/-- Before the first reset: every register of the core holds ⊥, the control registers among them (R161, R23). -/
def State.powerOn : State :=
  { busy := Config.powerOnBusy
    done := Config.powerOnDone
    rc := Config.powerOnRc
    stateReg := ⟨Config.powerOnStateReg, false⟩
    ctReg := ⟨Config.powerOnCtReg, false⟩
    keyReg := ⟨Config.powerOnKeyReg, false⟩
    coreReset := false
    schedKeyReg := ⟨Config.powerOnSchedKeyReg, false⟩
    schedReset := false
    pipeIn := PipePorts.idle
    ksIn := KsPorts.idle
    harness := Harness.zero
    output := .nothing
    stimulus := []
    freeCount := 1 }

/-- Right after reset: one PIPE_RESET and one KS_RESET edge have been taken from power-on (R23, R120, R95).
`busy`, `done` and `rc` are 0, the data registers ⊥; the inputs are idle and nothing is waiting to be driven. -/
def State.reset : State :=
  { busy := false
    done := false
    rc := 0
    stateReg := ⟨Config.freeStateReg 1 Config.powerOnStateReg, false⟩
    ctReg := ⟨Config.freeCtReg 1 Config.powerOnCtReg, false⟩
    keyReg := ⟨Config.freeKeyReg 1 Config.powerOnKeyReg, false⟩
    coreReset := true
    schedKeyReg := ⟨Config.freeSchedKeyReg 2 Config.powerOnSchedKeyReg, false⟩
    schedReset := true
    pipeIn := PipePorts.idle
    ksIn := KsPorts.idle
    harness := Harness.zero
    output := .nothing
    stimulus := []
    freeCount := 3 }

end Sys2Proof.Machine
end

