-- ==== Sys2Proof/Machine/Flags.lean ====
section
/-! DEFINITION. The two status flags (R12): the only flags of the core. No cipher operation computes one; these
are all the ways a cycle operation writes them. -/

namespace Sys2Proof.Machine

/-- PIPE_RESET clears both flags (R120, R20, R21). -/
def State.clearFlags (s : State) : State :=
  { s with busy := false, done := false }

/-- PIPE_LOAD raises `busy` and clears `done` (R122). -/
def State.flagsAccepted (s : State) : State :=
  { s with busy := true, done := false }

/-- PIPE_LAST clears `busy` and raises `done` (R125). -/
def State.flagsPublished (s : State) : State :=
  { s with busy := false, done := true }

/-- The word STATUS: `zext_32(busy)` (R30). Before the first PIPE_RESET `busy` is an opaque bit: DESIGN CHOICE, log 15. -/
def State.statusWord (s : State) : HarnessWord :=
  (BitVec.ofBool s.busy).zeroExtend 32

end Sys2Proof.Machine
end

