-- ==== Sys2Proof/Machine/Cipher.lean ====
section
/-! DEFINITION. The cipher's functions on bit vectors (40_sbox_stage.md to 43_round_pipeline.md section 1): what the
COMB and FUNC operations compute and the cycle operations are built from. -/

namespace Sys2Proof.Machine

/-! ## Substitution (40_sbox_stage.md) -/

/-- The S-box table, SBOX[0] .. SBOX[F] (R70). -/
def sboxTable : Vector Nibble 16 :=
  #v[0xC, 0x5, 0x6, 0xB, 0x9, 0x0, 0xA, 0xD, 0x3, 0xE, 0xF, 0x8, 0x4, 0x7, 0x1, 0x2]

/-- SBOX4: `y := SBOX[x]` (R71). -/
def sbox4 (x : Nibble) : Nibble :=
  sboxTable.get x.toFin

/-- Nibble `j` of a block: bits 4j+3 .. 4j (R43, R72). -/
def nibbleAt (s : Block) (j : Nat) : Nibble :=
  s.extractLsb' (4 * j) 4

/-- SBOX_LAYER: `out[4j+3:4j] := SBOX[s[4j+3:4j]]` for j in 0..15 (R72). Each lane is written once. -/
def sboxLayer (s : Block) : Block :=
  (List.range Config.sboxLanes).foldl
    (fun out j => out ||| ((sbox4 (nibbleAt s j)).zeroExtend 64 <<< (4 * j))) 0

/-! ## Permutation (41_permutation_stage.md) -/

/-- The permutation table: `P[i] = (16 * i) mod 63` for `i != 63`, and `P[63] = 63` (R80). -/
def permIndex (i : Nat) : Nat :=
  if i = 63 then 63 else 16 * i % 63

/-- The block with bit `b` at position `k` and zeros elsewhere. -/
def bitAt (b : Bool) (k : Nat) : Block :=
  (BitVec.ofBool b).zeroExtend 64 <<< k

/-- P_LAYER in LSB-0 form: `out[P(j)] := s[j]` for j in 0..63 (R82). -/
def pLayer (s : Block) : Block :=
  (List.range 64).foldl (fun out j => out ||| bitAt (s.getLsbD j) (permIndex j)) 0

/-- P_LAYER as the document states it, over its MSB-first positions: `out[63 - P[i]] := s[63 - i]` (R82, R8). -/
def pLayerDocument (s : Block) : Block :=
  (List.range 64).foldl (fun out i => out ||| bitAt (s.getLsbD (63 - i)) (63 - permIndex i)) 0

/-! ## Key schedule (42_key_scheduler.md) -/

/-- ROTL61: `{ K[18:0], K[79:19] }`, the left rotation by 61 (R90, C1). -/
def rotl61 (k : Key) : Key :=
  k.extractLsb' 0 19 ++ k.extractLsb' 19 61

/-- SUBTOP: `{ SBOX[K[79:76]], K[75:0] }` (R92). -/
def subTop (k : Key) : Key :=
  sbox4 (k.extractLsb' 76 4) ++ k.extractLsb' 0 76

/-- MIXRC: `K ^ (zext_80(r[4:0]) << 15)` (R93). -/
def mixRc (k : Key) (r : Counter) : Key :=
  k ^^^ (r.zeroExtend 80 <<< Config.counterPosition)

/-- KS_UPDATE: rotate, substitute, then XOR the counter (R94). -/
def ksUpdate (k : Key) (r : Counter) : Key :=
  mixRc (subTop (rotl61 k)) r

/-- The `high` component of a key: bits 79..16 (R17), which is the round key it stands for (R99). -/
def highOf (k : Key) : Block :=
  k.extractLsb' 16 64

/-- `KR_i`, the key register after `i` updates: `KR_0 = key`, `KR_i = KS_UPDATE(KR_(i-1), i)` (R99). -/
def keyRegister (key : Key) : Nat → Key
  | 0 => key
  | i + 1 => ksUpdate (keyRegister key i) (BitVec.ofNat 5 (i + 1))

/-- The round keys that the loop of R100 appends from counter `r` on, `n` of them, starting at register value `k`. -/
def roundKeysFrom (k : Key) (r : Nat) : Nat → List Block
  | 0 => []
  | n + 1 =>
    let k' := ksUpdate k (BitVec.ofNat 5 r)
    highOf k' :: roundKeysFrom k' (r + 1) n

/-- The loop appends as many keys as it is asked for. -/
theorem roundKeysFrom_length (k : Key) (r n : Nat) : (roundKeysFrom k r n).length = n := by
  induction n generalizing k r with
  | zero => rfl
  | succ n ih => simp [roundKeysFrom, ih]

/-- GENERATE_ROUND_KEYS: `ks[0] := key[79:16]`, then one update and one key for r = 1..31 (R100). -/
def generateRoundKeys (key : Key) : Schedule :=
  ⟨(highOf key :: roundKeysFrom key 1 31).toArray, by simp [roundKeysFrom_length]⟩

/-! ## Cipher engine (43_round_pipeline.md section 1) -/

/-- ROUND_FN: `P_LAYER(SBOX_LAYER(s ^ rk))` (R110). -/
def roundFn (s rk : Block) : Block :=
  pLayer (sboxLayer (s ^^^ rk))

/-- The cipher state after the first `n` rounds, with keys `ks[0] .. ks[n-1]` in order (R111's loop). -/
def stateAfterRounds (pt : Block) (ks : Schedule) (n : Nat) : Block :=
  (ks.toList.take n).foldl roundFn pt

/-- ENCRYPT: 31 rounds, then the final whitening with `ks[31]` (R111). -/
def encrypt (pt : Block) (ks : Schedule) : Block :=
  stateAfterRounds pt ks Config.numRounds ^^^ ks[31]

/-- PRESENT80: `ENCRYPT(pt, GENERATE_ROUND_KEYS(key))` (R113). -/
def present80 (pt : Block) (key : Key) : Block :=
  encrypt pt (generateRoundKeys key)

end Sys2Proof.Machine
end

