-- ==== Sys2Proof/Machine/Operands.lean ====
section
/-! DEFINITION. Operand assembly (R65) and the word mapping of the harness (R30 to R35, R41, R42): every form in which
a value reaches the core or leaves it. -/

namespace Sys2Proof.Machine

/-- The master key `{key_high, key_low}` (R65, R41). -/
def masterKey (keyHigh : Block) (keyLow : KeyLow) : Key :=
  keyHigh ++ keyLow

/-- Two harness words, the most significant first (R42). -/
def wordPair (w0 w1 : HarnessWord) : Block :=
  w0 ++ w1

/-- The first word of a pair, bits 63..32 (R42). -/
def firstWord (v : Block) : HarnessWord :=
  v.extractLsb' 32 32

/-- The second word of a pair, bits 31..0 (R42). -/
def secondWord (v : Block) : HarnessWord :=
  v.extractLsb' 0 32

/-- The levels the harness words put on the core's ports: CONFIG nonzero is `start` (R31), the key words
(R32, KEY2[31:16] ignored), the plaintext words (R33). `rst` is not a harness word. -/
def Harness.ports (h : Harness) (rst : Bool) : PipePorts :=
  { rst := rst
    start := h.config != 0
    keyHigh := wordPair h.key0 h.key1
    keyLow := h.key2.extractLsb' 0 16
    plaintext := wordPair h.pt0 h.pt1 }

/-- One write of the harness. STATUS, CT0 and CT1 are driven by the core: writing them changes nothing (R30, R35). -/
def Harness.write (h : Harness) (r : HarnessReg) (v : HarnessWord) : Harness :=
  match r with
  | .config => { h with config := v }
  | .key0 => { h with key0 := v }
  | .key1 => { h with key1 := v }
  | .key2 => { h with key2 := v }
  | .pt0 => { h with pt0 := v }
  | .pt1 => { h with pt1 := v }
  | .status | .ct0 | .ct1 => h

/-- Several writes, in order. -/
def Harness.writes (h : Harness) (ws : List (HarnessReg × HarnessWord)) : Harness :=
  ws.foldl (fun h w => h.write w.1 w.2) h

end Sys2Proof.Machine
end

