-- ==== Sys2Proof/Machine/Ops.lean ====
section
/-! DEFINITION. The named operations over registers and ports. The core takes no exception and has no return from one
(R140, R145, R146), so there is no exception entry here: the one stop is `badControlState`. -/

namespace Sys2Proof

/-! ## Registers with the ⊥ marker -/

/-- A register that has been written with `v`. -/
def Reg.of {w : Nat} (v : BitVec w) : Reg w :=
  ⟨v, true⟩

/-- A register holding ⊥, whose bits are the free value `v` (R23). -/
def Reg.bottom {w : Nat} (v : BitVec w) : Reg w :=
  ⟨v, false⟩

/-- A value computed from one register: "any operation with a ⊥ operand gives ⊥" (U1). -/
def Reg.map {v w : Nat} (f : BitVec v → BitVec w) (a : Reg v) : Reg w :=
  ⟨f a.value, a.held⟩

/-- A value computed from two registers: ⊥ if either is ⊥ (U1). -/
def Reg.map₂ {u v w : Nat} (f : BitVec u → BitVec v → BitVec w) (a : Reg u) (b : Reg v) : Reg w :=
  ⟨f a.value b.value, a.held && b.held⟩

/-- What a reader of the register gets: no value while it holds ⊥. -/
def Reg.read {w : Nat} (a : Reg w) : Option (BitVec w) :=
  if a.held then some a.value else none

end Sys2Proof

namespace Sys2Proof.Machine

/-! ## The key scheduler's outputs and its four cycle operations, for either instance -/

/-- `round_key := key_reg[79:16]` (R101). -/
def roundKeyOf (k : Reg 80) : Reg 64 :=
  k.map highOf

/-- `next_round_key := KS_UPDATE(key_reg, rc)[79:16]` (R101). -/
def nextRoundKeyOf (k : Reg 80) (rc : Counter) : Reg 64 :=
  k.map (fun v => highOf (ksUpdate v rc))

/-- What one edge leaves in `key_reg`, for each operation of the scheduler (R95 to R98). `free` is the free value
that KS_RESET leaves. -/
def keyRegAfter (op : KsOp) (keyHigh : Block) (keyLow : KeyLow) (rc : Counter) (free : Key) (k : Reg 80) : Reg 80 :=
  match op with
  | .reset => Reg.bottom free
  | .load => Reg.of (masterKey keyHigh keyLow)
  | .advance => k.map (fun v => ksUpdate v rc)
  | .hold => k

/-- How present_round_pipeline drives its embedded scheduler's control inputs {rst, load, advance} under each of its
operations (R60). -/
def embeddedControl (op : PipeOp) : KsCw :=
  match op with
  | .reset => ksControlWord true false false
  | .load => ksControlWord false true false
  | .round | .last | .badstate => ksControlWord false false true
  | .idle => ksControlWord false false false

/-! ## The datapath of present_round_pipeline (R114) -/

/-- `sbox.d_in := state_reg ^ ks.round_key`. -/
def State.sboxIn (s : State) : Reg 64 :=
  Reg.map₂ (· ^^^ ·) s.stateReg (roundKeyOf s.keyReg)

/-- `sbox.d_out`, which is `perm.d_in`. -/
def State.sboxOut (s : State) : Reg 64 :=
  s.sboxIn.map sboxLayer

/-- `rnd := perm.d_out`: `ROUND_FN(state_reg, key_reg[79:16])`. -/
def State.rnd (s : State) : Reg 64 :=
  s.sboxOut.map pLayer

/-- `fin := rnd ^ ks.next_round_key`, with `rc` on the scheduler's counter input. -/
def State.fin (s : State) (rc : Counter) : Reg 64 :=
  Reg.map₂ (· ^^^ ·) s.rnd (nextRoundKeyOf s.keyReg rc)

/-! ## Edges of present_round_pipeline -/

/-- The registers after a PIPE_RESET edge (R120). It draws free values for the three data registers. -/
def State.resetCore (s : State) : State :=
  { s.clearFlags with
    rc := 0
    stateReg := Reg.bottom (Config.freeStateReg s.freeCount s.stateReg.value)
    ctReg := Reg.bottom (Config.freeCtReg s.freeCount s.ctReg.value)
    keyReg := keyRegAfter .reset 0 0 0 (Config.freeKeyReg s.freeCount s.keyReg.value) s.keyReg
    coreReset := true
    freeCount := s.freeCount + 1 }

/-- The registers after a PIPE_LOAD edge (R122). -/
def State.acceptRequest (s : State) (keyHigh : Block) (keyLow : KeyLow) (plaintext : Block) : State :=
  { s.flagsAccepted with
    stateReg := Reg.of plaintext
    keyReg := keyRegAfter .load keyHigh keyLow 0 0 s.keyReg
    rc := 1 }

/-- The registers after a PIPE_ROUND edge with counter `rc` (R123, R124). -/
def State.advanceRound (s : State) (rc : Counter) : State :=
  { s with
    stateReg := s.rnd
    keyReg := keyRegAfter .advance 0 0 rc 0 s.keyReg
    rc := rc + 1 }

/-- The registers after a PIPE_LAST edge (R125). -/
def State.publish (s : State) : State :=
  { s.flagsPublished with
    ctReg := s.fin 31
    stateReg := s.fin 31
    keyReg := keyRegAfter .advance 0 0 31 0 s.keyReg
    rc := 0 }

/-! ## Edges of the standalone key scheduler -/

/-- The standalone scheduler's register after a KS_RESET edge (R95). It draws a free value. -/
def State.resetSched (s : State) : State :=
  { s with
    schedKeyReg := keyRegAfter .reset 0 0 0 (Config.freeSchedKeyReg s.freeCount s.schedKeyReg.value) s.schedKeyReg
    schedReset := true
    freeCount := s.freeCount + 1 }

/-- The standalone scheduler's register replaced. -/
def State.withSchedKeyReg (s : State) (k : Reg 80) : State :=
  { s with schedKeyReg := k }

/-! ## Results of operations with no edge -/

/-- The result of a COMB or FUNC operation recorded; no register of the spec is written (R61, log 7). -/
def State.withOutput (s : State) (o : Output) : State :=
  { s with output := o }

end Sys2Proof.Machine
end

