-- ==== Sys2Proof/Machine/KeyScheduler.lean ====
section
/-! DEFINITION. The meanings of the standalone present_key_scheduler's cycle operations, of its outputs and of the key
schedule's functions (42_key_scheduler.md). -/

namespace Sys2Proof.Machine

/-- KS_RESET: `key_reg <- ⊥` (R95). -/
def execKsReset (s : State) : Host.Outcome State Fault Refusal :=
  .next s.resetSched

/-- KS_LOAD: `key_reg <- {key_high, key_low}` (R96). -/
def execKsLoad (keyHigh : Block) (keyLow : KeyLow) (s : State) : Host.Outcome State Fault Refusal :=
  .next (s.withSchedKeyReg (keyRegAfter .load keyHigh keyLow 0 0 s.schedKeyReg))

/-- KS_ADVANCE: `key_reg <- KS_UPDATE(key_reg, rc)` for every 5-bit `rc`, 0 among them (R97, R64). -/
def execKsAdvance (rc : Counter) (s : State) : Host.Outcome State Fault Refusal :=
  .next (s.withSchedKeyReg (keyRegAfter .advance 0 0 rc 0 s.schedKeyReg))

/-- KS_HOLD: no register is written (R98). -/
def execKsHold (s : State) : Host.Outcome State Fault Refusal :=
  .next (s.withSchedKeyReg (keyRegAfter .hold 0 0 0 0 s.schedKeyReg))

/-- KS_ROUND_KEY: `round_key` of the standalone scheduler (R101). -/
def execKsRoundKey (s : State) : Host.Outcome State Fault Refusal :=
  .next (s.withOutput (.roundKey (roundKeyOf s.schedKeyReg)))

/-- KS_NEXT_ROUND_KEY: `next_round_key` of the standalone scheduler, with the level on its `rc` port (R101). -/
def execKsNextRoundKey (s : State) : Host.Outcome State Fault Refusal :=
  .next (s.withOutput (.roundKey (nextRoundKeyOf s.schedKeyReg s.ksIn.rc)))

/-- KS_ROTL61 (R90). -/
def execKsRotl61 (k : Key) (s : State) : Host.Outcome State Fault Refusal :=
  .next (s.withOutput (.key (rotl61 k)))

/-- KS_SUBTOP (R92). -/
def execKsSubtop (k : Key) (s : State) : Host.Outcome State Fault Refusal :=
  .next (s.withOutput (.key (subTop k)))

/-- KS_MIXRC (R93). -/
def execKsMixrc (k : Key) (r : Counter) (s : State) : Host.Outcome State Fault Refusal :=
  .next (s.withOutput (.key (mixRc k r)))

/-- KS_UPDATE (R94). -/
def execKsUpdate (k : Key) (r : Counter) (s : State) : Host.Outcome State Fault Refusal :=
  .next (s.withOutput (.key (ksUpdate k r)))

/-- GENERATE_ROUND_KEYS (R100). -/
def execGenerateRoundKeys (key : Key) (s : State) : Host.Outcome State Fault Refusal :=
  .next (s.withOutput (.schedule (generateRoundKeys key)))

end Sys2Proof.Machine
end

