-- ==== Sys2Proof/Machine/Pipeline.lean ====
section
/-! DEFINITION. The meanings of present_round_pipeline's cycle operations and of the cipher engine's functions
(43_round_pipeline.md). -/

namespace Sys2Proof.Machine

/-- PIPE_RESET: `busy <- 0 ; done <- 0 ; rc <- 0`, and ⊥ in the three data registers, whatever they hold (R120). -/
def execPipeReset (s : State) : Host.Outcome State Fault Refusal :=
  .next s.resetCore

/-- PIPE_BADSTATE: the model's fault; no register is written (R62, R131). -/
def execPipeBadstate (_ : State) : Host.Outcome State Fault Refusal :=
  .fault .badControlState

/-- PIPE_LAST: round 30, final whitening and publication at one edge (R125). -/
def execPipeLast (s : State) : Host.Outcome State Fault Refusal :=
  .next s.publish

/-- PIPE_ROUND: one round, one key update, one count (R123, R124). -/
def execPipeRound (rc : Counter) (s : State) : Host.Outcome State Fault Refusal :=
  .next (s.advanceRound rc)

/-- PIPE_LOAD: the core accepts a request and samples its inputs (R122). -/
def execPipeLoad (keyHigh : Block) (keyLow : KeyLow) (plaintext : Block) (s : State) :
    Host.Outcome State Fault Refusal :=
  .next (s.acceptRequest keyHigh keyLow plaintext)

/-- PIPE_IDLE: no register is written (R121). -/
def execPipeIdle (s : State) : Host.Outcome State Fault Refusal :=
  .next s

/-- ROUND_FN (R110). -/
def execRoundFn (st rk : Block) (s : State) : Host.Outcome State Fault Refusal :=
  .next (s.withOutput (.block (roundFn st rk)))

/-- ENCRYPT (R111). -/
def execEncrypt (pt : Block) (ks : Schedule) (s : State) : Host.Outcome State Fault Refusal :=
  .next (s.withOutput (.block (encrypt pt ks)))

/-- PRESENT80 (R113). -/
def execPresent80 (pt : Block) (key : Key) (s : State) : Host.Outcome State Fault Refusal :=
  .next (s.withOutput (.block (present80 pt key)))

end Sys2Proof.Machine
end

