-- ==== Sys2Proof/Machine/Stages.lean ====
section
/-! DEFINITION. The meanings of the combinational cell and stages (40_sbox_stage.md, 41_permutation_stage.md): the value on
the output for a value on the input, with no edge and no register (R13, R14). -/

namespace Sys2Proof.Machine

/-- SBOX4 (R71). -/
def execSbox4 (x : Nibble) (s : State) : Host.Outcome State Fault Refusal :=
  .next (s.withOutput (.nibble (sbox4 x)))

/-- SBOX_LAYER (R72). -/
def execSboxLayer (dIn : Block) (s : State) : Host.Outcome State Fault Refusal :=
  .next (s.withOutput (.block (sboxLayer dIn)))

/-- P_LAYER (R82). -/
def execPLayer (dIn : Block) (s : State) : Host.Outcome State Fault Refusal :=
  .next (s.withOutput (.block (pLayer dIn)))

end Sys2Proof.Machine
end

