-- ==== Sys2Proof/Machine/Dispatch.lean ====
section
/-! DEFINITION. One arm per operation of the opcode table. -/

namespace Sys2Proof.Machine

def exec (i : Instr) (s : State) : Host.Outcome State Fault Refusal :=
  match i with
  | .pipeReset => Sys2Proof.Machine.execPipeReset s
  | .pipeBadstate => Sys2Proof.Machine.execPipeBadstate s
  | .pipeLast => Sys2Proof.Machine.execPipeLast s
  | .pipeRound rc => Sys2Proof.Machine.execPipeRound rc s
  | .pipeLoad keyHigh keyLow plaintext => Sys2Proof.Machine.execPipeLoad keyHigh keyLow plaintext s
  | .pipeIdle => Sys2Proof.Machine.execPipeIdle s
  | .ksReset => Sys2Proof.Machine.execKsReset s
  | .ksLoad keyHigh keyLow => Sys2Proof.Machine.execKsLoad keyHigh keyLow s
  | .ksAdvance rc => Sys2Proof.Machine.execKsAdvance rc s
  | .ksHold => Sys2Proof.Machine.execKsHold s
  | .sbox4 x => Sys2Proof.Machine.execSbox4 x s
  | .sboxLayer dIn => Sys2Proof.Machine.execSboxLayer dIn s
  | .pLayer dIn => Sys2Proof.Machine.execPLayer dIn s
  | .ksRoundKey => Sys2Proof.Machine.execKsRoundKey s
  | .ksNextRoundKey => Sys2Proof.Machine.execKsNextRoundKey s
  | .ksRotl61 k => Sys2Proof.Machine.execKsRotl61 k s
  | .ksSubtop k => Sys2Proof.Machine.execKsSubtop k s
  | .ksMixrc k r => Sys2Proof.Machine.execKsMixrc k r s
  | .ksUpdate k r => Sys2Proof.Machine.execKsUpdate k r s
  | .generateRoundKeys key => Sys2Proof.Machine.execGenerateRoundKeys key s
  | .roundFn st rk => Sys2Proof.Machine.execRoundFn st rk s
  | .encrypt pt ks => Sys2Proof.Machine.execEncrypt pt ks s
  | .present80 pt key => Sys2Proof.Machine.execPresent80 pt key s

end Sys2Proof.Machine
end

