-- ==== Sys2Proof/Machine/Harness.lean ====
section
/-! DEFINITION. What is seen of the core from outside: its output ports (R16) and the harness's words (R30 to R35), by name
and, for a given REG_MAP, by address (R49). No read has a side effect (R48). -/

namespace Sys2Proof.Machine

/-- The `ciphertext` port as a reader may use it: no value while `ct_reg` holds ⊥ (R22, R166). -/
def State.ciphertext (s : State) : Option Block :=
  s.ctReg.read

/-- One harness word read. STATUS, CT0 and CT1 are views of the core (R30, R34); the others read back what the harness
wrote. CT0 and CT1 have no value while `ct_reg` holds ⊥. DESIGN CHOICE (log 15): before the first PIPE_RESET, where `busy` is ⊥
(R23, R161), STATUS still reads as a word, whose bit 0 is the opaque `Config.powerOnBusy`. -/
def State.readHarness (s : State) (r : HarnessReg) : Option HarnessWord :=
  match r with
  | .status => some s.statusWord
  | .config => some s.harness.config
  | .key0 => some s.harness.key0
  | .key1 => some s.harness.key1
  | .key2 => some s.harness.key2
  | .pt0 => some s.harness.pt0
  | .pt1 => some s.harness.pt1
  | .ct0 => s.ciphertext.map firstWord
  | .ct1 => s.ciphertext.map secondWord

/-- The harness word at an address of a REG_MAP (R49, D15). -/
def harnessRegAt (m : RegMap) (a : Nat) : Option HarnessReg :=
  if a = m.status then some .status
  else if a = m.config then some .config
  else if a = m.key0 then some .key0
  else if a = m.key1 then some .key1
  else if a = m.key2 then some .key2
  else if a = m.pt0 then some .pt0
  else if a = m.pt1 then some .pt1
  else if a = m.ct0 then some .ct0
  else if a = m.ct1 then some .ct1
  else none

/-- A read on the harness's bus: no value at an address the map does not hold. -/
def State.busRead (s : State) (m : RegMap) (a : Nat) : Option HarnessWord :=
  match harnessRegAt m a with
  | some r => s.readHarness r
  | none => none

/-- Writes on the harness's bus, given by address, as the writes of a stimulus line. An address the map does not
hold is no write. -/
def busWrites (m : RegMap) : List (Nat × HarnessWord) → List (HarnessReg × HarnessWord)
  | [] => []
  | (a, v) :: rest =>
    match harnessRegAt m a with
    | some r => (r, v) :: busWrites m rest
    | none => busWrites m rest

end Sys2Proof.Machine
end

