-- ==== Sys2Proof/Machine/Stimulus.lean ====
section
/-! DEFINITION. The stimulus notation of R66, each line as the levels it drives, and how a step takes the next line: which
unit is clocked, what its ports show, what that selects. -/

namespace Sys2Proof.Machine

/-! ## R66's notation

An input a line does not name keeps the level it has in `p` ("data inputs any value"). -/

/-- `RESET`. -/
def resetLine (p : PipePorts) : Line :=
  .core { p with rst := true, start := false }

/-- `GO key=.. pt=..`. -/
def goLine (key : Key) (pt : Block) : Line :=
  .core { rst := false, start := true, keyHigh := highOf key, keyLow := key.extractLsb' 0 16, plaintext := pt }

/-- `NOP`. -/
def nopLine (p : PipePorts) : Line :=
  .core { p with rst := false, start := false }

/-- `REPEAT n <line>`. -/
def repeatLine (n : Nat) (l : Line) : List Line :=
  List.replicate n l

/-- `WAIT n`: n consecutive NOP lines. -/
def waitLines (n : Nat) (p : PipePorts) : List Line :=
  repeatLine n (nopLine p)

/-- `KRESET`. -/
def kresetLine (p : KsPorts) : Line :=
  .sched { p with rst := true, load := false, advance := false }

/-- `KLOAD key=..`. -/
def kloadLine (p : KsPorts) (key : Key) : Line :=
  .sched { p with rst := false, load := true, advance := false, keyHigh := highOf key, keyLow := key.extractLsb' 0 16 }

/-- `KADV rc=..`. -/
def kadvLine (p : KsPorts) (rc : Counter) : Line :=
  .sched { p with rst := false, load := false, advance := true, rc := rc }

/-- `KHOLD`. -/
def kholdLine (p : KsPorts) : Line :=
  .sched { p with rst := false, load := false, advance := false }

/-- `KLOADADV key=.. rc=..`. -/
def kloadadvLine (key : Key) (rc : Counter) : Line :=
  .sched { rst := false, load := true, advance := true, keyHigh := highOf key, keyLow := key.extractLsb' 0 16, rc := rc }

/-! ## One step's inputs -/

/-- The next line. When the environment has nothing more to say, the levels on the core's ports stay as they are and
its clock runs on (R162, log 4). -/
def State.nextLine (s : State) : Line :=
  match s.stimulus with
  | [] => .core s.pipeIn
  | l :: _ => l

/-- The ports as a line drives them. -/
def State.driveLine (s : State) (l : Line) : State :=
  match l with
  | .core p => { s with pipeIn := p }
  | .bus rst ws => { s with harness := s.harness.writes ws, pipeIn := (s.harness.writes ws).ports rst }
  | .sched p => { s with ksIn := p }
  | .eval _ => s

/-- The state just before the step's operation: the next line has been taken and its levels stand on the ports. -/
def State.driven (s : State) : State :=
  { s.driveLine s.nextLine with stimulus := s.stimulus.tail }

/-- What the ports and, for the core, the control registers just before the edge select (R56, R58, R61). -/
def State.selection (s : State) (l : Line) : Selection :=
  match l with
  | .core _ | .bus _ _ =>
    .pipe (pipeControlWord s.pipeIn.rst s.pipeIn.start s.busy s.rc)
      s.pipeIn.keyHigh s.pipeIn.keyLow s.pipeIn.plaintext
  | .sched _ =>
    .ks (ksControlWord s.ksIn.rst s.ksIn.load s.ksIn.advance) s.ksIn.keyHigh s.ksIn.keyLow s.ksIn.rc
  | .eval i => .named i

/-- Whether the edge is one with `rst = 0` of a unit that has not been reset: it is refused (R161, D20, U2). -/
def State.edgeUnreset (s : State) (l : Line) : Bool :=
  match l with
  | .core _ | .bus _ _ => !s.coreReset && !s.pipeIn.rst
  | .sched _ => !s.schedReset && !s.ksIn.rst
  | .eval _ => false

/-! ## Placing a table word -/

/-- The state with a selection placed where the next step takes it: its levels as the next line, the core's control
registers as the bits of `cw` that are registers (R56), and the unit reset if it was not. -/
def State.placeSelection (s : State) (sel : Selection) : State :=
  match sel with
  | .pipe cw keyHigh keyLow plaintext =>
    { s with
      busy := cw.getLsbD 5
      rc := cw.extractLsb' 0 5
      coreReset := true
      stimulus := .core { rst := cw.getLsbD 7, start := cw.getLsbD 6, keyHigh := keyHigh, keyLow := keyLow,
                          plaintext := plaintext } :: s.stimulus }
  | .ks kcw keyHigh keyLow rc =>
    { s with
      schedReset := true
      stimulus := .sched { rst := kcw.getLsbD 2, load := kcw.getLsbD 1, advance := kcw.getLsbD 0,
                           keyHigh := keyHigh, keyLow := keyLow, rc := rc } :: s.stimulus }
  | .named i => { s with stimulus := .eval i :: s.stimulus }

end Sys2Proof.Machine
end

