-- ==== Sys2Proof/Machine/Step.lean ====
section
/-! DEFINITION. One step: take the next stimulus line, refuse an edge of a unit that was never reset (R161), decode what the
ports and control registers select, and run it. -/

namespace Sys2Proof.Machine

/-- One step of the machine: one edge of one clocked unit, or the evaluation of one operation that has no edge. -/
def step (s : State) : Host.Outcome State Fault Refusal :=
  if s.driven.edgeUnreset s.nextLine then .refused .unresetEdge
  else
    match decode (s.driven.selection s.nextLine) with
    | .instr i => exec i s.driven
    | .rejected e => .refused (.undecodable e)

/-- `s` with a table word placed where the next step takes it; unchanged for a width the table does not have. -/
def State.withFetchWord (s : State) (nbits w : Nat) : State :=
  match tableSelection nbits w with
  | some sel => s.placeSelection sel
  | none => s

end Sys2Proof.Machine
end

