-- ==== Sys2Proof/Safety.lean ====
section
/-! DEFINITION. The terms claims about runs are stated in: the invariants of the spec (R26, R27, R21), which lines clock which
unit, and traces of a standalone key scheduler (R102). -/

namespace Sys2Proof.Machine

/-! ## Runs -/

/-- `k` steps, stopping at the first fault or refusal. -/
def run (k : Nat) (s : State) : Host.Outcome State Fault Refusal :=
  Host.Core.run core k s

/-! ## Lines -/

/-- The line is an edge of the core. -/
def Line.clocksCore : Line → Bool
  | .core _ | .bus _ _ => true
  | .sched _ | .eval _ => false

/-- The line is an edge of the core with `rst = 0`. -/
def Line.runsCore : Line → Bool
  | .core p => !p.rst
  | .bus rst _ => !rst
  | .sched _ | .eval _ => false

/-- The master key on the core's ports (R65). -/
def State.keyOnPorts (s : State) : Key :=
  masterKey s.pipeIn.keyHigh s.pipeIn.keyLow

/-- The next edge is one at which an idle core that has been reset accepts a request (R57, R122). -/
def State.AboutToLoad (s : State) : Prop :=
  s.coreReset = true ∧ s.busy = false ∧ s.nextLine.clocksCore = true ∧
    s.driven.pipeIn.rst = false ∧ s.driven.pipeIn.start = true

/-- Each of the next `n` lines the environment has ready is an edge of the core with `rst = 0`. -/
def State.NoResetFor (s : State) (n : Nat) : Prop :=
  ∀ l ∈ s.stimulus.take n, l.runsCore = true

/-! ## Invariants -/

/-- INV (R26): what the control registers satisfy at every edge after the first PIPE_RESET. -/
def State.Inv (s : State) : Prop :=
  s.coreReset = true →
    (s.busy = false → s.rc = 0) ∧
    (s.busy = true → 1 ≤ s.rc.toNat ∧ s.rc.toNat ≤ 31) ∧
    (s.busy = true → s.stateReg.held = true ∧ s.keyReg.held = true)

/-- A published result is whole: while `done = 1` the core is not busy and `ct_reg` holds a value (R20, R21, R45). -/
def State.PublishedInv (s : State) : Prop :=
  s.coreReset = true → s.done = true → s.busy = false ∧ s.ctReg.held = true

/-- R27: an encryption of `pt` under `key` is under way and the next edge applies update `n`. `key_reg` is KR_(n-1)
and `state_reg` the cipher state after rounds 0..n-2. -/
def State.Encrypting (s : State) (pt : Block) (key : Key) (n : Nat) : Prop :=
  1 ≤ n ∧ n ≤ 31 ∧ s.coreReset = true ∧ s.busy = true ∧ s.done = false ∧ s.rc = BitVec.ofNat 5 n ∧
    s.keyReg = ⟨keyRegister key (n - 1), true⟩ ∧
    s.stateReg = ⟨stateAfterRounds pt (generateRoundKeys key) (n - 1), true⟩

/-- Two states have the same core registers (R17 to R22). -/
def State.SameCore (s t : State) : Prop :=
  t.busy = s.busy ∧ t.done = s.done ∧ t.rc = s.rc ∧ t.stateReg = s.stateReg ∧ t.ctReg = s.ctReg ∧
    t.keyReg = s.keyReg ∧ t.coreReset = s.coreReset

/-- Two states have the same standalone scheduler (R15, R17). -/
def State.SameSched (s t : State) : Prop :=
  t.schedKeyReg = s.schedKeyReg ∧ t.schedReset = s.schedReset

/-! ## Standalone key-scheduler traces -/

/-- The counter reached from `n` by edges that each hold, or advance with the next counter value 1, 2, .., 31 (R102);
no value for a trace that resets, loads, or skips or repeats a counter value. -/
def ksTrace (n : Nat) : List KsPorts → Option Nat
  | [] => some n
  | p :: rest =>
    if p.rst || p.load then none
    else if p.advance then
      if n + 1 ≤ 31 ∧ p.rc = BitVec.ofNat 5 (n + 1) then ksTrace (n + 1) rest else none
    else ksTrace n rest

end Sys2Proof.Machine
end

