-- ==== Sys2Proof/Certificates/Slice0/Obligations.lean ====
section
/-! DEFINITION. The statements for the provers. -/

open Sys2Proof Sys2Proof.Machine

/-! ## Control words and decoding (30_encoding.md) -/

/-- R56: at a core edge the selection is the control word made of the ports `rst`, `start` and the registers `busy`,
`rc` just before the edge, bit by bit; the data inputs are operands beside it. -/
def Obligations.PipeControlWordIsPortsAndRegisters : Prop :=
  ∀ (s : State), s.nextLine.clocksCore = true →
    s.driven.busy = s.busy ∧ s.driven.rc = s.rc ∧
    ∃ cw : PipeCw,
      s.driven.selection s.nextLine =
        .pipe cw s.driven.pipeIn.keyHigh s.driven.pipeIn.keyLow s.driven.pipeIn.plaintext ∧
      cw.getLsbD 7 = s.driven.pipeIn.rst ∧ cw.getLsbD 6 = s.driven.pipeIn.start ∧
      cw.getLsbD 5 = s.busy ∧ cw.extractLsb' 0 5 = s.rc

/-- R58: at an edge of the standalone scheduler the selection is the control word made of its ports, bit by bit; the
key ports and `rc` are operands beside it. -/
def Obligations.KsControlWordIsPorts : Prop :=
  ∀ (s : State) (p : KsPorts) (rest : List Line), s.stimulus = .sched p :: rest →
    ∃ kcw : KsCw,
      s.driven.selection s.nextLine = .ks kcw p.keyHigh p.keyLow p.rc ∧
      kcw.getLsbD 2 = p.rst ∧ kcw.getLsbD 1 = p.load ∧ kcw.getLsbD 0 = p.advance

/-- R57: the rows in order, the first whose `(cw & mask) == match` selects, every one of the 256 words selects a row;
and the same in the words of the table's condition column. -/
def Obligations.PipeDecodeIsFirstMatchOfTheTable : Prop :=
  ∀ (cw : PipeCw) (kh : Block) (kl : KeyLow) (pt : Block),
    decode (.pipe cw kh kl pt) = .instr
      (if cw &&& 0x80 = 0x80 then .pipeReset
       else if cw &&& 0xBF = 0x20 then .pipeBadstate
       else if cw &&& 0xBF = 0x3F then .pipeLast
       else if cw &&& 0xA0 = 0x20 then .pipeRound (cw.extractLsb' 0 5)
       else if cw &&& 0xE0 = 0x40 then .pipeLoad kh kl pt
       else .pipeIdle) ∧
    decode (.pipe cw kh kl pt) = .instr
      (if cw.getLsbD 7 then .pipeReset
       else if cw.getLsbD 5 then
         if cw.extractLsb' 0 5 = 0 then .pipeBadstate
         else if cw.extractLsb' 0 5 = 31 then .pipeLast
         else .pipeRound (cw.extractLsb' 0 5)
       else if cw.getLsbD 6 then .pipeLoad kh kl pt
       else .pipeIdle) ∧
    (decode (.pipe cw kh kl pt) = .instr .pipeIdle → cw &&& 0xE0 = 0x00)

/-- R59: the rows in order, and every one of the 8 words selects a row. -/
def Obligations.KsDecodeIsFirstMatchOfTheTable : Prop :=
  ∀ (kcw : KsCw) (kh : Block) (kl : KeyLow) (rc : Counter),
    decode (.ks kcw kh kl rc) = .instr
      (if kcw &&& 0b100 = 0b100 then .ksReset
       else if kcw &&& 0b110 = 0b010 then .ksLoad kh kl
       else if kcw &&& 0b111 = 0b001 then .ksAdvance rc
       else .ksHold) ∧
    (decode (.ks kcw kh kl rc) = .instr .ksHold → kcw = 0)

/-- R55, R57, R59, R61: decoding the encoding of a well-formed operation gives it back, with every operand. -/
def Obligations.DecodeOfEncodeIsTheInstruction : Prop :=
  ∀ i : Instr, i.wellFormed = true → decode (encode i) = .instr i

/-- R55: what is decoded is well formed and belongs to the format of what selected it; so no control word selects a
COMB or FUNC operation (R61). A cycle operation named outright is rejected. -/
def Obligations.DecodedIsWellFormedAndOfItsFormat : Prop :=
  (∀ (sel : Selection) (i : Instr), decode sel = .instr i →
      (∀ j, sel = .named j → j = i ∧ (i.format = .comb ∨ i.format = .func)) ∧
      (∀ cw kh kl pt, sel = .pipe cw kh kl pt → i.format = .pipeCw ∧ i.wellFormed = true) ∧
      (∀ kcw kh kl rc, sel = .ks kcw kh kl rc → i.format = .ksCw ∧ i.wellFormed = true)) ∧
  (∀ i : Instr, i.format = .pipeCw ∨ i.format = .ksCw → decode (.named i) = .rejected .needsControlWord)

/-- Control words written out from R57 and R59, bit by bit, decode to what they stand for (V16, V18). -/
def Obligations.WrittenOutControlWordsDecode : Prop :=
  decode (.pipe 0b10100101 0 0 0) = .instr .pipeReset ∧
  decode (.pipe 0b01000000 1 2 3) = .instr (.pipeLoad 1 2 3) ∧
  decode (.pipe 0b01100001 1 2 3) = .instr (.pipeRound 1) ∧
  decode (.pipe 0b00111110 0 0 0) = .instr (.pipeRound 30) ∧
  decode (.pipe 0b01111111 0 0 0) = .instr .pipeLast ∧
  decode (.pipe 0b01100000 0 0 0) = .instr .pipeBadstate ∧
  decode (.pipe 0b00000000 1 2 3) = .instr .pipeIdle ∧
  decode (.ks 0b011 1 2 3) = .instr (.ksLoad 1 2) ∧
  decode (.ks 0b001 1 2 3) = .instr (.ksAdvance 3) ∧
  decode (.ks 0b110 1 2 3) = .instr .ksReset ∧
  decode (.ks 0b000 1 2 3) = .instr .ksHold

/-! ## Substitution and permutation (40_sbox_stage.md, 41_permutation_stage.md) -/

/-- R71: `y := SBOX[x]`, the table read as the 64-bit string C56B90AD3EF84712 (R70), a bijection with
no fixed point; nothing but the result is written. -/
def Obligations.Sbox4LooksUpTheTable : Prop :=
  (∀ (x : Nibble) (s : State),
    exec (.sbox4 x) s =
      .next { s with output := .nibble (BitVec.extractLsb' (4 * (15 - x.toNat)) 4 0xC56B90AD3EF84712#64) }) ∧
  (∀ x : Nibble, sbox4 x ≠ x) ∧ Function.Bijective sbox4

/-- R72, R73: `out[4j+3:4j] := SBOX[s[4j+3:4j]]` for j in 0..15; nothing but the result is written. -/
def Obligations.SboxLayerSubstitutesEachNibble : Prop :=
  ∀ (dIn : Block) (s : State), ∃ out : Block,
    exec (.sboxLayer dIn) s = .next { s with output := .block out } ∧
    ∀ j < 16, out.extractLsb' (4 * j) 4 = sbox4 (dIn.extractLsb' (4 * j) 4)

/-- R74: SBOX_LAYER is a bijection, and its inverse is lane-wise by the inverse table `5 E F 8 C 1 2 D B 4 6 3 0 7 9 A`. -/
def Obligations.SboxLayerIsABijection : Prop :=
  Function.Bijective sboxLayer ∧
  ∀ (s : Block), ∀ j < 16,
    (#v[0x5#4, 0xE, 0xF, 0x8, 0xC, 0x1, 0x2, 0xD, 0xB, 0x4, 0x6, 0x3, 0x0, 0x7, 0x9, 0xA]).get
      ((sboxLayer s).extractLsb' (4 * j) 4).toFin = s.extractLsb' (4 * j) 4

/-- R82 with R80's table: input bit j moves to output bit `P(j)` for all 64 bits, and, over document positions, bit
`63 - i` moves to bit `63 - P[i]`; nothing but the result is written. -/
def Obligations.PLayerMovesEachBit : Prop :=
  ∀ (dIn : Block) (s : State), ∃ out : Block,
    exec (.pLayer dIn) s = .next { s with output := .block out } ∧
    (∀ j < 64, out.getLsbD (if j = 63 then 63 else 16 * j % 63) = dIn.getLsbD j) ∧
    (∀ i < 64, out.getLsbD (63 - (if i = 63 then 63 else 16 * i % 63)) = dIn.getLsbD (63 - i))

/-- R81: the document's MSB-first form of P_LAYER and the LSB-0 form are the same function, because P commutes with
bit reversal; the closed form, the inverse and the fixed points of P. -/
def Obligations.PLayerDocumentFormAgrees : Prop :=
  (∀ s : Block, pLayerDocument s = pLayer s) ∧
  (∀ j < 64, 63 - permIndex (63 - j) = permIndex j) ∧
  (∀ j < 64, permIndex j = 16 * (j % 4) + j / 4) ∧
  (∀ k < 64, permIndex (if k = 63 then 63 else 4 * k % 63) = k) ∧
  (∀ j < 64, permIndex j = j ↔ j = 0 ∨ j = 21 ∨ j = 42 ∨ j = 63)

/-- R83: P_LAYER is a bijection and a pure rewiring: output bit k is input bit `P^-1(k)` (R81), and the 64 sources are
all of 0..63. -/
def Obligations.PLayerIsARewiring : Prop :=
  Function.Bijective pLayer ∧
  (∀ (s : Block), ∀ k < 64, (pLayer s).getLsbD k = s.getLsbD (if k = 63 then 63 else 4 * k % 63)) ∧
  (∀ j < 64, ∃ k < 64, (if k = 63 then 63 else 4 * k % 63) = j)

/-! ## Key schedule functions (42_key_scheduler.md) -/

/-- R90, R91: ROTL61 is the left rotation of the 80 bits by 61: bit j moves to bit `(j + 61) mod 80`; the new `low` is
old bits 34..19, the new `high` old bits 18..0 then 79..35; nothing but the result is written. -/
def Obligations.Rotl61RotatesLeft : Prop :=
  ∀ (k : Key) (s : State), ∃ out : Key,
    exec (.ksRotl61 k) s = .next { s with output := .key out } ∧
    out = k.rotateLeft 61 ∧ (∀ j < 80, out.getLsbD ((j + 61) % 80) = k.getLsbD j) ∧
    out.extractLsb' 0 16 = k.extractLsb' 19 16 ∧
    out.extractLsb' 16 64 = (k.extractLsb' 0 19 ++ k.extractLsb' 35 45 : BitVec 64)

/-- R92: the top four bits are replaced by their S-box image and the other 76 are unchanged; nothing but the result is
written. -/
def Obligations.SubtopSubstitutesTheTopNibble : Prop :=
  ∀ (k : Key) (s : State), ∃ out : Key,
    exec (.ksSubtop k) s = .next { s with output := .key out } ∧
    out.extractLsb' 76 4 = sbox4 (k.extractLsb' 76 4) ∧ (∀ j < 76, out.getLsbD j = k.getLsbD j)

/-- R93: the counter is XORed into key bits 19..15 and no other bit changes, and the split form: `r >> 1` into `high`,
`(r & 1) << 15` into `low`; nothing but the result is written. -/
def Obligations.MixrcXorsTheCounterIntoBits19To15 : Prop :=
  ∀ (k : Key) (r : Counter) (s : State), ∃ out : Key,
    exec (.ksMixrc k r) s = .next { s with output := .key out } ∧
    (∀ j < 80, out.getLsbD j = (k.getLsbD j ^^ (decide (15 ≤ j ∧ j ≤ 19) && r.getLsbD (j - 15)))) ∧
    out.extractLsb' 16 64 = k.extractLsb' 16 64 ^^^ (r >>> 1).zeroExtend 64 ∧
    out.extractLsb' 0 16 = k.extractLsb' 0 16 ^^^ ((r &&& 1).zeroExtend 16 <<< 15)

/-- R94: KS_UPDATE is rotate, substitute, XOR, as each bit of its result shows; for a fixed r it is a bijection; the
substitution and the XOR commute; `r = 0` applies no counter bits; nothing but the result is written. -/
def Obligations.KsUpdateRotatesSubstitutesAndXors : Prop :=
  (∀ (k : Key) (r : Counter) (s : State), ∃ out : Key,
    exec (.ksUpdate k r) s = .next { s with output := .key out } ∧
    out = mixRc (subTop (rotl61 k)) r ∧
    out.extractLsb' 76 4 = sbox4 (k.extractLsb' 15 4) ∧
    ∀ j < 76, out.getLsbD j =
      (k.getLsbD ((j + 19) % 80) ^^ (decide (15 ≤ j ∧ j ≤ 19) && r.getLsbD (j - 15)))) ∧
  (∀ r : Counter, Function.Bijective (fun k => ksUpdate k r)) ∧
  (∀ (k : Key) (r : Counter), subTop (mixRc (rotl61 k) r) = ksUpdate k r) ∧
  (∀ k : Key, ksUpdate k 0 = subTop (rotl61 k))

/-- R99, R100: the 32 round keys are bits 79..16 of KR_0 .. KR_31, where `KR_0 = key` and
`KR_i = KS_UPDATE(KR_(i-1), i)`; nothing but the result is written. -/
def Obligations.RoundKeysAreTheHighPartsOfTheKeyRegister : Prop :=
  ∀ (key : Key) (s : State), ∃ (ks : Schedule) (kr : Nat → Key),
    exec (.generateRoundKeys key) s = .next { s with output := .schedule ks } ∧
    kr 0 = key ∧ (∀ i < 31, kr (i + 1) = ksUpdate (kr i) (BitVec.ofNat 5 (i + 1))) ∧
    (∀ (i : Nat) (h : i < 32), ks[i] = (kr i).extractLsb' 16 64)

/-- R100, R28: what the schedule takes from the key: K_0 does not depend on `key_low`, whose 16 bits all lie in K_1; and the
32 round keys of the all-zero and the all-one key are not all identical (V8, V9). -/
def Obligations.RoundKeysDependOnTheWholeKey : Prop :=
  (∀ (h : Block) (l l' : KeyLow), (generateRoundKeys (h ++ l))[0] = (generateRoundKeys (h ++ l'))[0]) ∧
  (∀ (h : Block) (l : KeyLow), ∀ j < 16,
    (generateRoundKeys (h ++ l))[1].getLsbD (45 + j) =
      (if j = 15 then (sbox4 ((h ++ l : Key).extractLsb' 15 4)).getLsbD 0 else l.getLsbD j)) ∧
  (∃ i j : Fin 32, (generateRoundKeys 0)[i] ≠ (generateRoundKeys 0)[j]) ∧
  (∃ i j : Fin 32, (generateRoundKeys (BitVec.allOnes 80))[i] ≠ (generateRoundKeys (BitVec.allOnes 80))[j])

/-! ## Cipher functions (43_round_pipeline.md section 1) -/

/-- R110: `ROUND_FN(s, rk) := P_LAYER( SBOX_LAYER( s ^ rk ) )`, which depends only on `s ^ rk`; nothing but the result
is written. -/
def Obligations.RoundFnIsXorSubstitutePermute : Prop :=
  (∀ (st rk : Block) (s : State),
    exec (.roundFn st rk) s = .next { s with output := .block (pLayer (sboxLayer (st ^^^ rk))) }) ∧
  (∀ a b c d : Block, a ^^^ b = c ^^^ d → roundFn a b = roundFn c d)

/-- R111: 31 rounds, round r with `ks[r]`, in order, then the whitening with `ks[31]`, for every schedule; nothing but
the result is written. -/
def Obligations.EncryptIs31RoundsAndAWhitening : Prop :=
  ∀ (pt : Block) (ks : Schedule) (s : State), ∃ st : Nat → Block,
    exec (.encrypt pt ks) s = .next { s with output := .block (st 31 ^^^ ks[31]) } ∧
    st 0 = pt ∧ (∀ (r : Nat) (h : r < 31), st (r + 1) = roundFn (st r) ks[r])

/-- R113: `PRESENT80(pt, key) := ENCRYPT(pt, GENERATE_ROUND_KEYS(key))`, with the known answers of V1, V2 (corrected by
C2) and V15; nothing but the result is written. -/
def Obligations.Present80EncryptsUnderTheGeneratedKeys : Prop :=
  (∀ (pt : Block) (key : Key) (s : State),
    exec (.present80 pt key) s = .next { s with output := .block (encrypt pt (generateRoundKeys key)) }) ∧
  present80 0 0 = 0x5579C1387B228445 ∧
  present80 0 0xFFFFFFFFFFFFFFFFFFFF = 0xE72C46C0F5945049 ∧
  present80 0xFFFFFFFFFFFFFFFF 0xFFFFFFFFFFFFFFFFFFFF = 0x3333DCD3213210D2 ∧
  present80 0x0123456789ABCDEF 0x0123456789ABCDEF0123 = 0xF8DD50531D973BDE

/-! ## Cycle operations of the core (43_round_pipeline.md section 3) -/

/-- R120: at every state, `busy`, `done` and `rc` become 0 and the three data registers ⊥ (whatever bits they hold);
every port, harness word, waiting line and the standalone scheduler is unchanged. -/
def Obligations.PipeResetClearsControlAndLeavesDataBottom : Prop :=
  ∀ s : State, ∃ (a c : Block) (k : Key) (n : Nat),
    exec .pipeReset s = .next
      { s with busy := false, done := false, rc := 0, stateReg := ⟨a, false⟩, ctReg := ⟨c, false⟩,
               keyReg := ⟨k, false⟩, coreReset := true, freeCount := n }

/-- R121: no register is written. -/
def Obligations.PipeIdleWritesNothing : Prop :=
  ∀ s : State, exec .pipeIdle s = .next s

/-- R122: the plaintext and the key are sampled, `rc <- 1`, `busy <- 1`, `done <- 0`; nothing else changes, `ct_reg`
included. -/
def Obligations.PipeLoadSamplesTheRequest : Prop :=
  ∀ (kh : Block) (kl : KeyLow) (pt : Block) (s : State),
    exec (.pipeLoad kh kl pt) s = .next
      { s with stateReg := ⟨pt, true⟩, keyReg := ⟨kh ++ kl, true⟩, rc := 1, busy := true, done := false }

/-- R123, R124: one round with the key register's value from before the edge, one key update with `rc`, and `rc + 1`,
which for rc in 1..30 never wraps; nothing else changes. A result is ⊥ only if an operand is. -/
def Obligations.PipeRoundDoesOneRoundAndOneKeyUpdate : Prop :=
  ∀ (rc : Counter) (s : State), 1 ≤ rc.toNat → rc.toNat ≤ 30 →
    exec (.pipeRound rc) s = .next
      { s with
        stateReg := ⟨roundFn s.stateReg.value (s.keyReg.value.extractLsb' 16 64), s.stateReg.held && s.keyReg.held⟩
        keyReg := ⟨ksUpdate s.keyReg.value rc, s.keyReg.held⟩
        rc := rc + 1 } ∧
    (rc + 1).toNat = rc.toNat + 1

/-- R125: round 30, whitening with K_31 and publication at one edge; nothing else changes. A result is ⊥ only if an
operand is. -/
def Obligations.PipeLastWhitensAndPublishes : Prop :=
  ∀ s : State,
    let t := roundFn s.stateReg.value (s.keyReg.value.extractLsb' 16 64)
    let k' := ksUpdate s.keyReg.value 31
    let c := t ^^^ k'.extractLsb' 16 64
    exec .pipeLast s = .next
      { s with
        ctReg := ⟨c, s.stateReg.held && s.keyReg.held⟩
        stateReg := ⟨c, s.stateReg.held && s.keyReg.held⟩
        keyReg := ⟨k', s.keyReg.held⟩
        rc := 0
        busy := false
        done := true }

/-- R131, R62: PIPE_BADSTATE raises the model's fault at every state; and it is unreachable: from a state that satisfies INV
(R26) no step faults. -/
def Obligations.PipeBadstateFaultsAndIsUnreachable : Prop :=
  (∀ s : State, exec .pipeBadstate s = .fault .badControlState) ∧
  (∀ (s : State) (f : Fault), s.Inv → step s ≠ .fault f)

/-! ## Cycle operations and outputs of the standalone key scheduler (42_key_scheduler.md) -/

/-- R95: `key_reg <- ⊥` (whatever bits it holds), with `load` and `advance` ignored at that edge; nothing of the core, no
port and no line changes. -/
def Obligations.KsResetLeavesBottom : Prop :=
  (∀ s : State, ∃ (k : Key) (n : Nat),
    exec .ksReset s = .next { s with schedKeyReg := ⟨k, false⟩, schedReset := true, freeCount := n }) ∧
  (∀ (load advance : Bool) (kh : Block) (kl : KeyLow) (rc : Counter),
    decode (.ks (ksControlWord true load advance) kh kl rc) = .instr .ksReset)

/-- R96: `key_reg <- {key_high, key_low}`, `round_key` is then `key_high`, and `advance = 1` at the same edge is
ignored; nothing else changes. -/
def Obligations.KsLoadLoadsTheKey : Prop :=
  (∀ (kh : Block) (kl : KeyLow) (s : State),
    exec (.ksLoad kh kl) s = .next { s with schedKeyReg := ⟨kh ++ kl, true⟩ }) ∧
  (∀ (kh : Block) (kl : KeyLow), roundKeyOf ⟨kh ++ kl, true⟩ = ⟨kh, true⟩) ∧
  (∀ (advance : Bool) (kh : Block) (kl : KeyLow) (rc : Counter),
    decode (.ks (ksControlWord false true advance) kh kl rc) = .instr (.ksLoad kh kl))

/-- R64, R97: `key_reg <- KS_UPDATE(key_reg, rc)` for all 32 values of `rc`; with `rc = 0` only the rotation and the S-box
step apply; advancing ⊥ gives ⊥; nothing else changes. -/
def Obligations.KsAdvanceAppliesOneUpdate : Prop :=
  (∀ (rc : Counter) (s : State),
    exec (.ksAdvance rc) s = .next
      { s with schedKeyReg := ⟨ksUpdate s.schedKeyReg.value rc, s.schedKeyReg.held⟩ }) ∧
  (∀ s : State, exec (.ksAdvance 0) s = .next
      { s with schedKeyReg := ⟨subTop (rotl61 s.schedKeyReg.value), s.schedKeyReg.held⟩ })

/-- R98: no register is written. -/
def Obligations.KsHoldWritesNothing : Prop :=
  ∀ s : State, exec .ksHold s = .next s

/-- R101: `round_key := key_reg[79:16]` and `next_round_key := KS_UPDATE(key_reg, rc)[79:16]`, ⊥ with `key_reg`; while
`key_reg = KR_(n-1)` and `rc = n` they are K_(n-1) and K_n; nothing but the result is written. -/
def Obligations.SchedulerOutputsFollowKeyReg : Prop :=
  (∀ s : State,
    exec .ksRoundKey s = .next
      { s with output := .roundKey ⟨s.schedKeyReg.value.extractLsb' 16 64, s.schedKeyReg.held⟩ } ∧
    exec .ksNextRoundKey s = .next
      { s with output :=
          .roundKey ⟨(ksUpdate s.schedKeyReg.value s.ksIn.rc).extractLsb' 16 64, s.schedKeyReg.held⟩ }) ∧
  (∀ (key : Key) (n : Nat) (h1 : 1 ≤ n) (h31 : n ≤ 31),
    roundKeyOf ⟨keyRegister key (n - 1), true⟩ = ⟨(generateRoundKeys key)[n - 1], true⟩ ∧
    nextRoundKeyOf ⟨keyRegister key (n - 1), true⟩ (BitVec.ofNat 5 n) = ⟨(generateRoundKeys key)[n], true⟩)

/-! ## The core's structure -/

/-- R60: the embedded scheduler's control inputs under each operation of the pipeline, and that its `key_reg` does at
each core edge what those inputs select (R59), with the pipeline's key ports and `rc`. -/
def Obligations.EmbeddedSchedulerFollowsThePipeline : Prop :=
  embeddedControl .reset &&& 0b100 = 0b100 ∧ embeddedControl .load = 0b010 ∧ embeddedControl .round = 0b001 ∧
  embeddedControl .last = 0b001 ∧ embeddedControl .idle = 0b000 ∧ embeddedControl .badstate = 0b001 ∧
  ∀ (s t : State) (op : PipeOp) (i : Instr), s.nextLine.clocksCore = true →
    firstMatch pipeTable (pipeControlWord s.driven.pipeIn.rst s.driven.pipeIn.start s.busy s.rc) = some op →
    decode (s.driven.selection s.nextLine) = .instr i → exec i s.driven = .next t →
    ∃ (kop : KsOp) (free : Key), firstMatch ksTable (embeddedControl op) = some kop ∧
      t.keyReg = keyRegAfter kop s.driven.pipeIn.keyHigh s.driven.pipeIn.keyLow s.rc free s.keyReg

/-- R114: the datapath's wires are the functions of the spec; a wire is ⊥ exactly when `state_reg` or `key_reg` is. -/
def Obligations.DatapathComputesTheRound : Prop :=
  ∀ (s : State) (rc : Counter),
    let held := s.stateReg.held && s.keyReg.held
    s.sboxIn = ⟨s.stateReg.value ^^^ s.keyReg.value.extractLsb' 16 64, held⟩ ∧
    s.sboxOut = ⟨sboxLayer s.sboxIn.value, held⟩ ∧
    s.rnd = ⟨pLayer s.sboxOut.value, held⟩ ∧
    s.rnd = ⟨roundFn s.stateReg.value (s.keyReg.value.extractLsb' 16 64), held⟩ ∧
    s.fin rc = ⟨s.rnd.value ^^^ (ksUpdate s.keyReg.value rc).extractLsb' 16 64, held⟩

/-- R17 to R22: which operations write which register: an edge that changes one is an edge of an operation that the
rule of that register lists as a writer. -/
def Obligations.RegistersChangeOnlyByTheirWriters : Prop :=
  ∀ (s t : State), step s = .next t → ∃ i : Instr,
    decode (s.driven.selection s.nextLine) = .instr i ∧
    (t.keyReg ≠ s.keyReg → i = .pipeReset ∨ (∃ a b c, i = .pipeLoad a b c) ∨ (∃ r, i = .pipeRound r) ∨ i = .pipeLast) ∧
    (t.stateReg ≠ s.stateReg →
      i = .pipeReset ∨ (∃ a b c, i = .pipeLoad a b c) ∨ (∃ r, i = .pipeRound r) ∨ i = .pipeLast) ∧
    (t.rc ≠ s.rc → i = .pipeReset ∨ (∃ a b c, i = .pipeLoad a b c) ∨ (∃ r, i = .pipeRound r) ∨ i = .pipeLast) ∧
    (t.busy ≠ s.busy → i = .pipeReset ∨ (∃ a b c, i = .pipeLoad a b c) ∨ i = .pipeLast) ∧
    (t.done ≠ s.done → i = .pipeReset ∨ (∃ a b c, i = .pipeLoad a b c) ∨ i = .pipeLast) ∧
    (t.ctReg ≠ s.ctReg → i = .pipeReset ∨ i = .pipeLast) ∧
    (t.schedKeyReg ≠ s.schedKeyReg → i = .ksReset ∨ (∃ a b, i = .ksLoad a b) ∨ ∃ r, i = .ksAdvance r)

/-- R150: the core and a standalone scheduler share no state: an edge of one leaves the other as it was, and an
evaluation leaves both. -/
def Obligations.InstancesShareNoState : Prop :=
  ∀ (s t : State), step s = .next t →
    (s.nextLine.clocksCore = true → s.SameSched t) ∧
    (s.nextLine.clocksCore = false → s.SameCore t) ∧
    (∀ i, s.nextLine = .eval i → s.SameSched t ∧ s.SameCore t)

/-! ## Steps -/

/-- A step takes the next line, puts its levels on the ports, and runs exactly the instruction that the ports and control
registers select, at the state so driven. -/
def Obligations.StepRunsTheSelectedInstruction : Prop :=
  ∀ (s : State) (i : Instr), s.driven.edgeUnreset s.nextLine = false →
    decode (s.driven.selection s.nextLine) = .instr i → step s = exec i s.driven

/-- R161: before the first PIPE_RESET every core edge with `rst = 0` is refused; an edge with `rst = 1` is taken, and
leaves the core reset. -/
def Obligations.UnresetCoreTakesOnlyAReset : Prop :=
  ∀ s : State, s.coreReset = false → s.nextLine.clocksCore = true →
    (s.driven.pipeIn.rst = false → step s = .refused .unresetEdge) ∧
    (s.driven.pipeIn.rst = true → ∃ t, step s = .next t ∧ t.coreReset = true ∧ t.busy = false ∧ t.done = false ∧ t.rc = 0)

/-- R160, R120, R144: an edge with `rst = 1` is a reset whatever `start`, `busy`, `rc` and the data hold. An encryption
under way is aborted: nothing is published, and `ciphertext` has no value. -/
def Obligations.ResetWinsAtEveryState : Prop :=
  ∀ s : State, s.nextLine.clocksCore = true → s.driven.pipeIn.rst = true →
    ∃ t, step s = .next t ∧ t.busy = false ∧ t.done = false ∧ t.rc = 0 ∧
      t.stateReg.held = false ∧ t.keyReg.held = false ∧ t.ctReg.held = false ∧ t.ciphertext = none ∧
      t.coreReset = true ∧ s.SameSched t

/-- R162, R152: an idle core with `start = 0` stays as it is. -/
def Obligations.IdleCoreKeepsItsState : Prop :=
  ∀ s : State, s.coreReset = true → s.busy = false → s.nextLine.clocksCore = true →
    s.driven.pipeIn.rst = false → s.driven.pipeIn.start = false →
    step s = .next s.driven ∧ s.SameCore s.driven ∧ s.SameSched s.driven

/-- R57, R122, R44: an idle core takes the request that stands on its ports at the edge, whatever `rc` holds. -/
def Obligations.IdleCoreAcceptsStart : Prop :=
  ∀ s : State, s.AboutToLoad →
    step s = .next
      { s.driven with
        stateReg := ⟨s.driven.pipeIn.plaintext, true⟩
        keyReg := ⟨s.driven.pipeIn.keyHigh ++ s.driven.pipeIn.keyLow, true⟩
        rc := 1
        busy := true
        done := false }

/-- R126, R44: while `busy = 1` neither `start` nor the data inputs matter: two edges that differ only in them leave states
that differ only in the levels on the ports. -/
def Obligations.BusyCoreIgnoresStartAndData : Prop :=
  ∀ (s : State) (p q : PipePorts) (ls : List Line), s.coreReset = true → s.busy = true → s.rc ≠ 0 →
    p.rst = false → q.rst = false →
    ∃ t : State, step { s with stimulus := .core p :: ls } = .next { t with pipeIn := p } ∧
      step { s with stimulus := .core q :: ls } = .next { t with pipeIn := q }

/-- R45, R143: at the edge at which `busy` falls without a reset, all 64 bits of `ct_reg` and `done` are written too. -/
def Obligations.BusyFallsOnlyWithAWholeCiphertext : Prop :=
  ∀ s t : State, step s = .next t → s.busy = true → t.busy = false → s.driven.pipeIn.rst = false →
    s.rc = 31 ∧ t.done = true ∧
    t.ctReg = ⟨roundFn s.stateReg.value (s.keyReg.value.extractLsb' 16 64) ^^^
                (ksUpdate s.keyReg.value 31).extractLsb' 16 64, s.stateReg.held && s.keyReg.held⟩

/-- No refusal and no fault where the spec gives an effect: with both units reset and the control registers legal, a step
goes on unless the environment names a cycle operation outright. -/
def Obligations.LegalStatesGoOn : Prop :=
  ∀ s : State, s.coreReset = true → s.schedReset = true → s.Inv →
    (∀ i, s.nextLine = .eval i → i.format = .comb ∨ i.format = .func) → ∃ t, step s = .next t

/-! ## Invariants -/

/-- R26: every step keeps INV, a reset edge establishes it whatever went before, and in it the control state
`busy = 1, rc = 0` does not occur. -/
def Obligations.StepKeepsInv : Prop :=
  (∀ s t : State, s.Inv → step s = .next t → t.Inv) ∧
  (∀ s t : State, s.nextLine.clocksCore = true → s.driven.pipeIn.rst = true → step s = .next t →
    t.coreReset = true ∧ t.Inv) ∧
  (∀ s : State, s.Inv → s.coreReset = true → ¬ (s.busy = true ∧ s.rc = 0))

/-- R23, R26: what reset leaves: `busy`, `done`, `rc` at 0, data registers ⊥; INV holds there, and before the first reset. -/
def Obligations.ResetStateIsAsTheSpecSays : Prop :=
  State.reset.busy = false ∧ State.reset.done = false ∧ State.reset.rc = 0 ∧ State.reset.stateReg.held = false ∧
    State.reset.ctReg.held = false ∧ State.reset.keyReg.held = false ∧ State.reset.schedKeyReg.held = false ∧
    State.reset.coreReset = true ∧ State.reset.Inv ∧ State.powerOn.coreReset = false ∧ State.powerOn.Inv

/-- R20, R21: every step keeps it that while `done = 1` the core is idle and `ct_reg` holds a value. -/
def Obligations.StepKeepsPublishedInv : Prop :=
  ∀ s t : State, s.Inv → s.PublishedInv → step s = .next t → t.PublishedInv

/-- R27: a core edge without reset takes an encryption at counter n < 31 to counter n + 1 with `key_reg = KR_n` and the
state after one more round, and leaves `ct_reg` alone; PIPE_LOAD establishes n = 1; a step of anything but the core
leaves n as it is. -/
def Obligations.EncryptionAdvancesRoundByRound : Prop :=
  (∀ s : State, s.AboutToLoad → ∃ t, step s = .next t ∧
      t.Encrypting s.driven.pipeIn.plaintext s.driven.keyOnPorts 1 ∧ t.ctReg = s.ctReg) ∧
  (∀ (s : State) (pt : Block) (key : Key) (n : Nat), s.Encrypting pt key n → n ≤ 30 →
      s.nextLine.clocksCore = true → s.driven.pipeIn.rst = false →
      ∃ t, step s = .next t ∧ t.Encrypting pt key (n + 1) ∧ t.ctReg = s.ctReg) ∧
  (∀ (s t : State) (pt : Block) (key : Key) (n : Nat), s.Encrypting pt key n →
      s.nextLine.clocksCore = false → step s = .next t → t.Encrypting pt key n ∧ t.ctReg = s.ctReg)

/-! ## Runs -/

/-- R127, R129: after PIPE_LOAD and m - 1 further edges without a reset, m = 1 .. 31, `busy = 1`, `rc = m`, and `ct_reg` still
shows what it showed; the 32nd edge ends the encryption and shows the new ciphertext. -/
def Obligations.LatencyIs31EdgesAfterLoad : Prop :=
  ∀ s : State, s.AboutToLoad → s.NoResetFor 32 →
    (∀ m, 1 ≤ m → m ≤ 31 → ∃ t : State, run m s = .next t ∧
      t.busy = true ∧ t.done = false ∧ t.rc = BitVec.ofNat 5 m ∧ t.ctReg = s.ctReg) ∧
    (∃ t : State, run 32 s = .next t ∧ t.busy = false ∧ t.done = true ∧ t.rc = 0 ∧
      t.ciphertext = some (present80 s.driven.pipeIn.plaintext s.driven.keyOnPorts))

/-- R128: if PIPE_LOAD samples `key` and `pt` and no reset falls in the 31 edges after it, then after them
`ct_reg = PRESENT80(pt, key)`, `busy = 0` and `done = 1`, whatever `start` and the data inputs did meanwhile. -/
def Obligations.CoreComputesPresent80 : Prop :=
  ∀ s : State, s.AboutToLoad → s.NoResetFor 32 →
    ∃ t : State, run 32 s = .next t ∧
      t.ctReg = ⟨present80 s.driven.pipeIn.plaintext s.driven.keyOnPorts, true⟩ ∧ t.busy = false ∧ t.done = true

/-- R29, R44: the result of an encryption depends only on what PIPE_LOAD samples: two cores in any states, with any inputs
at the later edges, that sample the same key and plaintext publish the same ciphertext. -/
def Obligations.ResultDependsOnlyOnTheSampledInputs : Prop :=
  ∀ s s' : State, s.AboutToLoad → s'.AboutToLoad → s.NoResetFor 32 → s'.NoResetFor 32 →
    s.driven.keyOnPorts = s'.driven.keyOnPorts → s.driven.pipeIn.plaintext = s'.driven.pipeIn.plaintext →
    ∃ t t' : State, run 32 s = .next t ∧ run 32 s' = .next t' ∧ t.ciphertext = t'.ciphertext ∧
      t.ciphertext.isSome = true

/-- R130: with `start` held, PIPE_LAST is followed at the next edge by a PIPE_LOAD of the inputs present there; `done` is 1
between the two and the finished ciphertext stays on `ct_reg`. -/
def Obligations.HeldStartRunsBackToBack : Prop :=
  ∀ (s : State) (p q : PipePorts) (ls : List Line), s.coreReset = true → s.busy = true → s.rc = 31 →
    s.stimulus = .core p :: .core q :: ls → p.rst = false → q.rst = false → q.start = true →
    ∃ t u, step s = .next t ∧ step t = .next u ∧
      t.done = true ∧ t.busy = false ∧ u.done = false ∧ u.busy = true ∧ u.rc = 1 ∧ u.ctReg = t.ctReg ∧
      u.stateReg = ⟨q.plaintext, true⟩ ∧ u.keyReg = ⟨q.keyHigh ++ q.keyLow, true⟩

/-- R102: a standalone scheduler that loads `key` and then advances with counters 1, 2, .., n, with any number of holds in
between, holds KR_n, and its `round_key` is GENERATE_ROUND_KEYS(key)[n]. -/
def Obligations.StandaloneSchedulerProducesTheSchedule : Prop :=
  ∀ (s : State) (load : KsPorts) (edges : List KsPorts) (more : List Line) (n : Nat),
    s.schedReset = true → s.stimulus = .sched load :: edges.map .sched ++ more →
    load.rst = false → load.load = true → ksTrace 0 edges = some n →
    ∃ t : State, run (1 + edges.length) s = .next t ∧
      t.schedKeyReg = ⟨keyRegister (load.keyHigh ++ load.keyLow) n, true⟩ ∧
      some (roundKeyOf t.schedKeyReg).value = (generateRoundKeys (load.keyHigh ++ load.keyLow)).toList[n]?

/-! ## The harness boundary (10_state.md section 7) -/

/-- R31, R32, R33: what the harness words drive on the ports, bit by bit; KEY2[31:16] drives nothing. -/
def Obligations.HarnessWordsDriveThePorts : Prop :=
  ∀ (h : Harness) (rst : Bool),
    ((h.ports rst).start = true ↔ h.config ≠ 0) ∧
    (∀ i < 32, (h.ports rst).keyHigh.getLsbD (32 + i) = h.key0.getLsbD i ∧
      (h.ports rst).keyHigh.getLsbD i = h.key1.getLsbD i ∧
      (h.ports rst).plaintext.getLsbD (32 + i) = h.pt0.getLsbD i ∧
      (h.ports rst).plaintext.getLsbD i = h.pt1.getLsbD i) ∧
    (∀ i < 16, (h.ports rst).keyLow.getLsbD i = h.key2.getLsbD i) ∧
    (∀ w : HarnessWord, w.extractLsb' 0 16 = h.key2.extractLsb' 0 16 →
      ({ h with key2 := w } : Harness).ports rst = h.ports rst)

/-- R30, R34: STATUS reads `zext_32(busy)`, for every bit `busy` may be (before the first PIPE_RESET it is an opaque bit, the
model's choice, log 15), and a write to it changes nothing; CT0, CT1 the halves of `ciphertext`, the most significant first, or no value
while it is ⊥. -/
def Obligations.HarnessReadsStatusAndCiphertext : Prop :=
  ∀ s : State,
    s.readHarness .status = some (if s.busy then 1 else 0) ∧
    (∀ v : HarnessWord, s.harness.write .status v = s.harness) ∧
    (s.ctReg.held = true → ∃ w0 w1 : HarnessWord, s.readHarness .ct0 = some w0 ∧ s.readHarness .ct1 = some w1 ∧
      w0 ++ w1 = s.ctReg.value) ∧
    (s.ctReg.held = false → s.readHarness .ct0 = none ∧ s.readHarness .ct1 = none)

/-- R30, R35: a harness write to STATUS, CT0 or CT1 changes nothing; a write to another word changes that word and no
other. -/
def Obligations.HarnessWritesOnlyItsOwnWords : Prop :=
  ∀ (s : State) (r q : HarnessReg) (v : HarnessWord),
    let t : State := { s with harness := s.harness.write r v }
    (r = .status ∨ r = .ct0 ∨ r = .ct1 → t = s) ∧
    (r ≠ .status → r ≠ .ct0 → r ≠ .ct1 → t.readHarness r = some v) ∧
    (q ≠ r → t.readHarness q = s.readHarness q)
end

