-- ==== Sys2Proof/Laws/Cipher.lean ====
section
/-! SUPPORT. The lemmas of the cipher's definitions that later proofs cite instead of unfolding them: bits of the two
layers' loops, and how the schedule and the round loop unfold by one. -/

namespace Sys2Proof.Machine

/-- A bit of a word built by OR-ing parts into it. -/
theorem getLsbD_foldl_or {w : Nat} (l : List Nat) (f : Nat → BitVec w) (acc : BitVec w) (k : Nat) :
    (l.foldl (fun out j => out ||| f j) acc).getLsbD k = (acc.getLsbD k || l.any fun j => (f j).getLsbD k) := by
  induction l generalizing acc with
  | nil => simp
  | cons a l ih => simp [ih, Bool.or_assoc]

/-- A bit of a word with one bit set. -/
theorem getLsbD_bitAt (b : Bool) (p k : Nat) (hk : k < 64) : (bitAt b p).getLsbD k = (b && decide (p = k)) := by
  simp only [bitAt, BitVec.getLsbD_shiftLeft, BitVec.truncate_eq_setWidth, BitVec.getLsbD_setWidth, hk, decide_true,
    Bool.true_and, BitVec.getLsbD_ofBool]
  by_cases h : p = k
  · simp [h]
  · by_cases hlt : k < p
    · simp [hlt, h]
    · have : k - p ≠ 0 := by omega
      simp [h, this]

@[simp] theorem keyRegister_zero (key : Key) : keyRegister key 0 = key := rfl

@[simp] theorem keyRegister_succ (key : Key) (i : Nat) :
    keyRegister key (i + 1) = ksUpdate (keyRegister key i) (BitVec.ofNat 5 (i + 1)) := rfl

/-- The key list of the schedule's loop, entry by entry. -/
theorem roundKeysFrom_getElem? (key : Key) (r n i : Nat) (h : i < n) :
    (roundKeysFrom (keyRegister key r) (r + 1) n)[i]? = some (highOf (keyRegister key (r + 1 + i))) := by
  induction n generalizing r i with
  | zero => omega
  | succ n ih =>
    cases i with
    | zero => simp [roundKeysFrom]
    | succ i =>
      have := ih (r + 1) i (by omega)
      simp only [roundKeysFrom, List.getElem?_cons_succ]
      rw [show r + 1 + (i + 1) = r + 1 + 1 + i by omega]
      exact this

@[simp] theorem stateAfterRounds_zero (pt : Block) (ks : Schedule) : stateAfterRounds pt ks 0 = pt := rfl

theorem stateAfterRounds_succ (pt : Block) (ks : Schedule) (r : Nat) (h : r < 32) :
    stateAfterRounds pt ks (r + 1) = roundFn (stateAfterRounds pt ks r) ks[r] := by
  simp only [stateAfterRounds]
  rw [List.take_add_one]
  simp [h]

end Sys2Proof.Machine
end

