-- ==== Sys2Proof/Laws/Ops.lean ====
section
/-! SUPPORT. One lemma for each shared operation over registers: what it can do. -/

namespace Sys2Proof

@[simp] theorem Reg.of_value {w : Nat} (v : BitVec w) : (Reg.of v).value = v := rfl
@[simp] theorem Reg.of_held {w : Nat} (v : BitVec w) : (Reg.of v).held = true := rfl
@[simp] theorem Reg.bottom_held {w : Nat} (v : BitVec w) : (Reg.bottom v).held = false := rfl
@[simp] theorem Reg.map_value {v w : Nat} (f : BitVec v → BitVec w) (a : Reg v) : (a.map f).value = f a.value := rfl
@[simp] theorem Reg.map_held {v w : Nat} (f : BitVec v → BitVec w) (a : Reg v) : (a.map f).held = a.held := rfl
@[simp] theorem Reg.map₂_value {u v w : Nat} (f : BitVec u → BitVec v → BitVec w) (a : Reg u) (b : Reg v) :
    (Reg.map₂ f a b).value = f a.value b.value := rfl
@[simp] theorem Reg.map₂_held {u v w : Nat} (f : BitVec u → BitVec v → BitVec w) (a : Reg u) (b : Reg v) :
    (Reg.map₂ f a b).held = (a.held && b.held) := rfl

/-- A reader gets a value exactly when the register holds one. -/
theorem Reg.read_eq_some {w : Nat} (a : Reg w) (v : BitVec w) : a.read = some v ↔ a.held = true ∧ a.value = v := by
  cases h : a.held <;> simp [Reg.read, h]

end Sys2Proof

namespace Sys2Proof.Machine

/-- What an edge leaves in a key register is one of four things. -/
theorem keyRegAfter_cases (op : KsOp) (kh : Block) (kl : KeyLow) (rc : Counter) (free : Key) (k : Reg 80) :
    (op = .reset ∧ keyRegAfter op kh kl rc free k = ⟨free, false⟩) ∨
    (op = .load ∧ keyRegAfter op kh kl rc free k = ⟨masterKey kh kl, true⟩) ∨
    (op = .advance ∧ keyRegAfter op kh kl rc free k = ⟨ksUpdate k.value rc, k.held⟩) ∨
    (op = .hold ∧ keyRegAfter op kh kl rc free k = k) := by
  cases op with
  | reset => exact .inl ⟨rfl, rfl⟩
  | load => exact .inr (.inl ⟨rfl, rfl⟩)
  | advance => exact .inr (.inr (.inl ⟨rfl, rfl⟩))
  | hold => exact .inr (.inr (.inr ⟨rfl, rfl⟩))

/-- The round's result is ⊥ exactly when the cipher state or the key is. -/
@[simp] theorem State.rnd_held (s : State) : s.rnd.held = (s.stateReg.held && s.keyReg.held) := rfl

@[simp] theorem State.rnd_value (s : State) : s.rnd.value = roundFn s.stateReg.value (highOf s.keyReg.value) := by
  simp only [State.rnd, State.sboxOut, State.sboxIn, roundKeyOf, roundFn, Reg.map_value, Reg.map₂_value]

@[simp] theorem State.fin_held (s : State) (rc : Counter) : (s.fin rc).held = (s.stateReg.held && s.keyReg.held) := by
  cases h1 : s.stateReg.held <;> cases h2 : s.keyReg.held <;> simp [State.fin, nextRoundKeyOf, h1, h2]

@[simp] theorem State.fin_value (s : State) (rc : Counter) :
    (s.fin rc).value = roundFn s.stateReg.value (highOf s.keyReg.value) ^^^ highOf (ksUpdate s.keyReg.value rc) := by
  simp only [State.fin, nextRoundKeyOf, Reg.map_value, Reg.map₂_value, State.rnd_value]

end Sys2Proof.Machine
end

