-- ==== Sys2Proof/Laws/PerInstr.lean ====
section
/-! SUPPORT. A statement about every instruction, one lemma per constructor: its encoding is a selection of its own
format (R55, R61). -/

namespace Sys2Proof.Laws.EncodingFormat

/-- The encoding of an instruction is of the instruction's format. -/
def Statement (i : Instr) : Prop :=
  (encode i).format = i.format

theorem pipeReset : Statement .pipeReset := rfl
theorem pipeBadstate : Statement .pipeBadstate := rfl
theorem pipeLast : Statement .pipeLast := rfl
theorem pipeRound (rc : Counter) : Statement (.pipeRound rc) := rfl
theorem pipeLoad (keyHigh : Block) (keyLow : KeyLow) (plaintext : Block) :
    Statement (.pipeLoad keyHigh keyLow plaintext) := rfl
theorem pipeIdle : Statement .pipeIdle := rfl
theorem ksReset : Statement .ksReset := rfl
theorem ksLoad (keyHigh : Block) (keyLow : KeyLow) : Statement (.ksLoad keyHigh keyLow) := rfl
theorem ksAdvance (rc : Counter) : Statement (.ksAdvance rc) := rfl
theorem ksHold : Statement .ksHold := rfl
theorem sbox4 (x : Nibble) : Statement (.sbox4 x) := rfl
theorem sboxLayer (dIn : Block) : Statement (.sboxLayer dIn) := rfl
theorem pLayer (dIn : Block) : Statement (.pLayer dIn) := rfl
theorem ksRoundKey : Statement .ksRoundKey := rfl
theorem ksNextRoundKey : Statement .ksNextRoundKey := rfl
theorem ksRotl61 (k : Key) : Statement (.ksRotl61 k) := rfl
theorem ksSubtop (k : Key) : Statement (.ksSubtop k) := rfl
theorem ksMixrc (k : Key) (r : Counter) : Statement (.ksMixrc k r) := rfl
theorem ksUpdate (k : Key) (r : Counter) : Statement (.ksUpdate k r) := rfl
theorem generateRoundKeys (key : Key) : Statement (.generateRoundKeys key) := rfl
theorem roundFn (s rk : Block) : Statement (.roundFn s rk) := rfl
theorem encrypt (pt : Block) (ks : Schedule) : Statement (.encrypt pt ks) := rfl
theorem present80 (pt : Block) (key : Key) : Statement (.present80 pt key) := rfl

end Sys2Proof.Laws.EncodingFormat
end

