-- ==== Sys2Proof/Laws/State.lean ====
section
/-! SUPPORT. The fields of the state after each named update: one lemma per field per update. -/

namespace Sys2Proof.Machine

/-! ## clearFlags -/

@[simp] theorem State.clearFlags_busy (s : State) : s.clearFlags.busy = false := rfl
@[simp] theorem State.clearFlags_done (s : State) : s.clearFlags.done = false := rfl
@[simp] theorem State.clearFlags_rc (s : State) : s.clearFlags.rc = s.rc := rfl
@[simp] theorem State.clearFlags_stateReg (s : State) : s.clearFlags.stateReg = s.stateReg := rfl
@[simp] theorem State.clearFlags_ctReg (s : State) : s.clearFlags.ctReg = s.ctReg := rfl
@[simp] theorem State.clearFlags_keyReg (s : State) : s.clearFlags.keyReg = s.keyReg := rfl
@[simp] theorem State.clearFlags_coreReset (s : State) : s.clearFlags.coreReset = s.coreReset := rfl
@[simp] theorem State.clearFlags_schedKeyReg (s : State) : s.clearFlags.schedKeyReg = s.schedKeyReg := rfl
@[simp] theorem State.clearFlags_schedReset (s : State) : s.clearFlags.schedReset = s.schedReset := rfl
@[simp] theorem State.clearFlags_pipeIn (s : State) : s.clearFlags.pipeIn = s.pipeIn := rfl
@[simp] theorem State.clearFlags_ksIn (s : State) : s.clearFlags.ksIn = s.ksIn := rfl
@[simp] theorem State.clearFlags_harness (s : State) : s.clearFlags.harness = s.harness := rfl
@[simp] theorem State.clearFlags_output (s : State) : s.clearFlags.output = s.output := rfl
@[simp] theorem State.clearFlags_stimulus (s : State) : s.clearFlags.stimulus = s.stimulus := rfl
@[simp] theorem State.clearFlags_freeCount (s : State) : s.clearFlags.freeCount = s.freeCount := rfl

/-! ## flagsAccepted -/

@[simp] theorem State.flagsAccepted_busy (s : State) : s.flagsAccepted.busy = true := rfl
@[simp] theorem State.flagsAccepted_done (s : State) : s.flagsAccepted.done = false := rfl
@[simp] theorem State.flagsAccepted_rc (s : State) : s.flagsAccepted.rc = s.rc := rfl
@[simp] theorem State.flagsAccepted_stateReg (s : State) : s.flagsAccepted.stateReg = s.stateReg := rfl
@[simp] theorem State.flagsAccepted_ctReg (s : State) : s.flagsAccepted.ctReg = s.ctReg := rfl
@[simp] theorem State.flagsAccepted_keyReg (s : State) : s.flagsAccepted.keyReg = s.keyReg := rfl
@[simp] theorem State.flagsAccepted_coreReset (s : State) : s.flagsAccepted.coreReset = s.coreReset := rfl
@[simp] theorem State.flagsAccepted_schedKeyReg (s : State) : s.flagsAccepted.schedKeyReg = s.schedKeyReg := rfl
@[simp] theorem State.flagsAccepted_schedReset (s : State) : s.flagsAccepted.schedReset = s.schedReset := rfl
@[simp] theorem State.flagsAccepted_pipeIn (s : State) : s.flagsAccepted.pipeIn = s.pipeIn := rfl
@[simp] theorem State.flagsAccepted_ksIn (s : State) : s.flagsAccepted.ksIn = s.ksIn := rfl
@[simp] theorem State.flagsAccepted_harness (s : State) : s.flagsAccepted.harness = s.harness := rfl
@[simp] theorem State.flagsAccepted_output (s : State) : s.flagsAccepted.output = s.output := rfl
@[simp] theorem State.flagsAccepted_stimulus (s : State) : s.flagsAccepted.stimulus = s.stimulus := rfl
@[simp] theorem State.flagsAccepted_freeCount (s : State) : s.flagsAccepted.freeCount = s.freeCount := rfl

/-! ## flagsPublished -/

@[simp] theorem State.flagsPublished_busy (s : State) : s.flagsPublished.busy = false := rfl
@[simp] theorem State.flagsPublished_done (s : State) : s.flagsPublished.done = true := rfl
@[simp] theorem State.flagsPublished_rc (s : State) : s.flagsPublished.rc = s.rc := rfl
@[simp] theorem State.flagsPublished_stateReg (s : State) : s.flagsPublished.stateReg = s.stateReg := rfl
@[simp] theorem State.flagsPublished_ctReg (s : State) : s.flagsPublished.ctReg = s.ctReg := rfl
@[simp] theorem State.flagsPublished_keyReg (s : State) : s.flagsPublished.keyReg = s.keyReg := rfl
@[simp] theorem State.flagsPublished_coreReset (s : State) : s.flagsPublished.coreReset = s.coreReset := rfl
@[simp] theorem State.flagsPublished_schedKeyReg (s : State) : s.flagsPublished.schedKeyReg = s.schedKeyReg := rfl
@[simp] theorem State.flagsPublished_schedReset (s : State) : s.flagsPublished.schedReset = s.schedReset := rfl
@[simp] theorem State.flagsPublished_pipeIn (s : State) : s.flagsPublished.pipeIn = s.pipeIn := rfl
@[simp] theorem State.flagsPublished_ksIn (s : State) : s.flagsPublished.ksIn = s.ksIn := rfl
@[simp] theorem State.flagsPublished_harness (s : State) : s.flagsPublished.harness = s.harness := rfl
@[simp] theorem State.flagsPublished_output (s : State) : s.flagsPublished.output = s.output := rfl
@[simp] theorem State.flagsPublished_stimulus (s : State) : s.flagsPublished.stimulus = s.stimulus := rfl
@[simp] theorem State.flagsPublished_freeCount (s : State) : s.flagsPublished.freeCount = s.freeCount := rfl

/-! ## resetCore -/

@[simp] theorem State.resetCore_busy (s : State) : s.resetCore.busy = false := rfl
@[simp] theorem State.resetCore_done (s : State) : s.resetCore.done = false := rfl
@[simp] theorem State.resetCore_rc (s : State) : s.resetCore.rc = 0 := rfl
@[simp] theorem State.resetCore_stateReg (s : State) : s.resetCore.stateReg = Reg.bottom (Config.freeStateReg s.freeCount s.stateReg.value) := rfl
@[simp] theorem State.resetCore_ctReg (s : State) : s.resetCore.ctReg = Reg.bottom (Config.freeCtReg s.freeCount s.ctReg.value) := rfl
@[simp] theorem State.resetCore_keyReg (s : State) : s.resetCore.keyReg = Reg.bottom (Config.freeKeyReg s.freeCount s.keyReg.value) := rfl
@[simp] theorem State.resetCore_coreReset (s : State) : s.resetCore.coreReset = true := rfl
@[simp] theorem State.resetCore_schedKeyReg (s : State) : s.resetCore.schedKeyReg = s.schedKeyReg := rfl
@[simp] theorem State.resetCore_schedReset (s : State) : s.resetCore.schedReset = s.schedReset := rfl
@[simp] theorem State.resetCore_pipeIn (s : State) : s.resetCore.pipeIn = s.pipeIn := rfl
@[simp] theorem State.resetCore_ksIn (s : State) : s.resetCore.ksIn = s.ksIn := rfl
@[simp] theorem State.resetCore_harness (s : State) : s.resetCore.harness = s.harness := rfl
@[simp] theorem State.resetCore_output (s : State) : s.resetCore.output = s.output := rfl
@[simp] theorem State.resetCore_stimulus (s : State) : s.resetCore.stimulus = s.stimulus := rfl
@[simp] theorem State.resetCore_freeCount (s : State) : s.resetCore.freeCount = s.freeCount + 1 := rfl

/-! ## acceptRequest -/

@[simp] theorem State.acceptRequest_busy (s : State) (kh : Block) (kl : KeyLow) (pt : Block) : (s.acceptRequest kh kl pt).busy = true := rfl
@[simp] theorem State.acceptRequest_done (s : State) (kh : Block) (kl : KeyLow) (pt : Block) : (s.acceptRequest kh kl pt).done = false := rfl
@[simp] theorem State.acceptRequest_rc (s : State) (kh : Block) (kl : KeyLow) (pt : Block) : (s.acceptRequest kh kl pt).rc = 1 := rfl
@[simp] theorem State.acceptRequest_stateReg (s : State) (kh : Block) (kl : KeyLow) (pt : Block) : (s.acceptRequest kh kl pt).stateReg = Reg.of pt := rfl
@[simp] theorem State.acceptRequest_ctReg (s : State) (kh : Block) (kl : KeyLow) (pt : Block) : (s.acceptRequest kh kl pt).ctReg = s.ctReg := rfl
@[simp] theorem State.acceptRequest_keyReg (s : State) (kh : Block) (kl : KeyLow) (pt : Block) : (s.acceptRequest kh kl pt).keyReg = Reg.of (masterKey kh kl) := rfl
@[simp] theorem State.acceptRequest_coreReset (s : State) (kh : Block) (kl : KeyLow) (pt : Block) : (s.acceptRequest kh kl pt).coreReset = s.coreReset := rfl
@[simp] theorem State.acceptRequest_schedKeyReg (s : State) (kh : Block) (kl : KeyLow) (pt : Block) : (s.acceptRequest kh kl pt).schedKeyReg = s.schedKeyReg := rfl
@[simp] theorem State.acceptRequest_schedReset (s : State) (kh : Block) (kl : KeyLow) (pt : Block) : (s.acceptRequest kh kl pt).schedReset = s.schedReset := rfl
@[simp] theorem State.acceptRequest_pipeIn (s : State) (kh : Block) (kl : KeyLow) (pt : Block) : (s.acceptRequest kh kl pt).pipeIn = s.pipeIn := rfl
@[simp] theorem State.acceptRequest_ksIn (s : State) (kh : Block) (kl : KeyLow) (pt : Block) : (s.acceptRequest kh kl pt).ksIn = s.ksIn := rfl
@[simp] theorem State.acceptRequest_harness (s : State) (kh : Block) (kl : KeyLow) (pt : Block) : (s.acceptRequest kh kl pt).harness = s.harness := rfl
@[simp] theorem State.acceptRequest_output (s : State) (kh : Block) (kl : KeyLow) (pt : Block) : (s.acceptRequest kh kl pt).output = s.output := rfl
@[simp] theorem State.acceptRequest_stimulus (s : State) (kh : Block) (kl : KeyLow) (pt : Block) : (s.acceptRequest kh kl pt).stimulus = s.stimulus := rfl
@[simp] theorem State.acceptRequest_freeCount (s : State) (kh : Block) (kl : KeyLow) (pt : Block) : (s.acceptRequest kh kl pt).freeCount = s.freeCount := rfl

/-! ## advanceRound -/

@[simp] theorem State.advanceRound_busy (s : State) (rc : Counter) : (s.advanceRound rc).busy = s.busy := rfl
@[simp] theorem State.advanceRound_done (s : State) (rc : Counter) : (s.advanceRound rc).done = s.done := rfl
@[simp] theorem State.advanceRound_rc (s : State) (rc : Counter) : (s.advanceRound rc).rc = rc + 1 := rfl
@[simp] theorem State.advanceRound_stateReg (s : State) (rc : Counter) : (s.advanceRound rc).stateReg = s.rnd := rfl
@[simp] theorem State.advanceRound_ctReg (s : State) (rc : Counter) : (s.advanceRound rc).ctReg = s.ctReg := rfl
@[simp] theorem State.advanceRound_keyReg (s : State) (rc : Counter) : (s.advanceRound rc).keyReg = s.keyReg.map (fun v => ksUpdate v rc) := rfl
@[simp] theorem State.advanceRound_coreReset (s : State) (rc : Counter) : (s.advanceRound rc).coreReset = s.coreReset := rfl
@[simp] theorem State.advanceRound_schedKeyReg (s : State) (rc : Counter) : (s.advanceRound rc).schedKeyReg = s.schedKeyReg := rfl
@[simp] theorem State.advanceRound_schedReset (s : State) (rc : Counter) : (s.advanceRound rc).schedReset = s.schedReset := rfl
@[simp] theorem State.advanceRound_pipeIn (s : State) (rc : Counter) : (s.advanceRound rc).pipeIn = s.pipeIn := rfl
@[simp] theorem State.advanceRound_ksIn (s : State) (rc : Counter) : (s.advanceRound rc).ksIn = s.ksIn := rfl
@[simp] theorem State.advanceRound_harness (s : State) (rc : Counter) : (s.advanceRound rc).harness = s.harness := rfl
@[simp] theorem State.advanceRound_output (s : State) (rc : Counter) : (s.advanceRound rc).output = s.output := rfl
@[simp] theorem State.advanceRound_stimulus (s : State) (rc : Counter) : (s.advanceRound rc).stimulus = s.stimulus := rfl
@[simp] theorem State.advanceRound_freeCount (s : State) (rc : Counter) : (s.advanceRound rc).freeCount = s.freeCount := rfl

/-! ## publish -/

@[simp] theorem State.publish_busy (s : State) : s.publish.busy = false := rfl
@[simp] theorem State.publish_done (s : State) : s.publish.done = true := rfl
@[simp] theorem State.publish_rc (s : State) : s.publish.rc = 0 := rfl
@[simp] theorem State.publish_stateReg (s : State) : s.publish.stateReg = s.fin 31 := rfl
@[simp] theorem State.publish_ctReg (s : State) : s.publish.ctReg = s.fin 31 := rfl
@[simp] theorem State.publish_keyReg (s : State) : s.publish.keyReg = s.keyReg.map (fun v => ksUpdate v 31) := rfl
@[simp] theorem State.publish_coreReset (s : State) : s.publish.coreReset = s.coreReset := rfl
@[simp] theorem State.publish_schedKeyReg (s : State) : s.publish.schedKeyReg = s.schedKeyReg := rfl
@[simp] theorem State.publish_schedReset (s : State) : s.publish.schedReset = s.schedReset := rfl
@[simp] theorem State.publish_pipeIn (s : State) : s.publish.pipeIn = s.pipeIn := rfl
@[simp] theorem State.publish_ksIn (s : State) : s.publish.ksIn = s.ksIn := rfl
@[simp] theorem State.publish_harness (s : State) : s.publish.harness = s.harness := rfl
@[simp] theorem State.publish_output (s : State) : s.publish.output = s.output := rfl
@[simp] theorem State.publish_stimulus (s : State) : s.publish.stimulus = s.stimulus := rfl
@[simp] theorem State.publish_freeCount (s : State) : s.publish.freeCount = s.freeCount := rfl

/-! ## resetSched -/

@[simp] theorem State.resetSched_busy (s : State) : s.resetSched.busy = s.busy := rfl
@[simp] theorem State.resetSched_done (s : State) : s.resetSched.done = s.done := rfl
@[simp] theorem State.resetSched_rc (s : State) : s.resetSched.rc = s.rc := rfl
@[simp] theorem State.resetSched_stateReg (s : State) : s.resetSched.stateReg = s.stateReg := rfl
@[simp] theorem State.resetSched_ctReg (s : State) : s.resetSched.ctReg = s.ctReg := rfl
@[simp] theorem State.resetSched_keyReg (s : State) : s.resetSched.keyReg = s.keyReg := rfl
@[simp] theorem State.resetSched_coreReset (s : State) : s.resetSched.coreReset = s.coreReset := rfl
@[simp] theorem State.resetSched_schedKeyReg (s : State) : s.resetSched.schedKeyReg = Reg.bottom (Config.freeSchedKeyReg s.freeCount s.schedKeyReg.value) := rfl
@[simp] theorem State.resetSched_schedReset (s : State) : s.resetSched.schedReset = true := rfl
@[simp] theorem State.resetSched_pipeIn (s : State) : s.resetSched.pipeIn = s.pipeIn := rfl
@[simp] theorem State.resetSched_ksIn (s : State) : s.resetSched.ksIn = s.ksIn := rfl
@[simp] theorem State.resetSched_harness (s : State) : s.resetSched.harness = s.harness := rfl
@[simp] theorem State.resetSched_output (s : State) : s.resetSched.output = s.output := rfl
@[simp] theorem State.resetSched_stimulus (s : State) : s.resetSched.stimulus = s.stimulus := rfl
@[simp] theorem State.resetSched_freeCount (s : State) : s.resetSched.freeCount = s.freeCount + 1 := rfl

/-! ## withSchedKeyReg -/

@[simp] theorem State.withSchedKeyReg_busy (s : State) (k : Reg 80) : (s.withSchedKeyReg k).busy = s.busy := rfl
@[simp] theorem State.withSchedKeyReg_done (s : State) (k : Reg 80) : (s.withSchedKeyReg k).done = s.done := rfl
@[simp] theorem State.withSchedKeyReg_rc (s : State) (k : Reg 80) : (s.withSchedKeyReg k).rc = s.rc := rfl
@[simp] theorem State.withSchedKeyReg_stateReg (s : State) (k : Reg 80) : (s.withSchedKeyReg k).stateReg = s.stateReg := rfl
@[simp] theorem State.withSchedKeyReg_ctReg (s : State) (k : Reg 80) : (s.withSchedKeyReg k).ctReg = s.ctReg := rfl
@[simp] theorem State.withSchedKeyReg_keyReg (s : State) (k : Reg 80) : (s.withSchedKeyReg k).keyReg = s.keyReg := rfl
@[simp] theorem State.withSchedKeyReg_coreReset (s : State) (k : Reg 80) : (s.withSchedKeyReg k).coreReset = s.coreReset := rfl
@[simp] theorem State.withSchedKeyReg_schedKeyReg (s : State) (k : Reg 80) : (s.withSchedKeyReg k).schedKeyReg = k := rfl
@[simp] theorem State.withSchedKeyReg_schedReset (s : State) (k : Reg 80) : (s.withSchedKeyReg k).schedReset = s.schedReset := rfl
@[simp] theorem State.withSchedKeyReg_pipeIn (s : State) (k : Reg 80) : (s.withSchedKeyReg k).pipeIn = s.pipeIn := rfl
@[simp] theorem State.withSchedKeyReg_ksIn (s : State) (k : Reg 80) : (s.withSchedKeyReg k).ksIn = s.ksIn := rfl
@[simp] theorem State.withSchedKeyReg_harness (s : State) (k : Reg 80) : (s.withSchedKeyReg k).harness = s.harness := rfl
@[simp] theorem State.withSchedKeyReg_output (s : State) (k : Reg 80) : (s.withSchedKeyReg k).output = s.output := rfl
@[simp] theorem State.withSchedKeyReg_stimulus (s : State) (k : Reg 80) : (s.withSchedKeyReg k).stimulus = s.stimulus := rfl
@[simp] theorem State.withSchedKeyReg_freeCount (s : State) (k : Reg 80) : (s.withSchedKeyReg k).freeCount = s.freeCount := rfl

/-! ## withOutput -/

@[simp] theorem State.withOutput_busy (s : State) (o : Output) : (s.withOutput o).busy = s.busy := rfl
@[simp] theorem State.withOutput_done (s : State) (o : Output) : (s.withOutput o).done = s.done := rfl
@[simp] theorem State.withOutput_rc (s : State) (o : Output) : (s.withOutput o).rc = s.rc := rfl
@[simp] theorem State.withOutput_stateReg (s : State) (o : Output) : (s.withOutput o).stateReg = s.stateReg := rfl
@[simp] theorem State.withOutput_ctReg (s : State) (o : Output) : (s.withOutput o).ctReg = s.ctReg := rfl
@[simp] theorem State.withOutput_keyReg (s : State) (o : Output) : (s.withOutput o).keyReg = s.keyReg := rfl
@[simp] theorem State.withOutput_coreReset (s : State) (o : Output) : (s.withOutput o).coreReset = s.coreReset := rfl
@[simp] theorem State.withOutput_schedKeyReg (s : State) (o : Output) : (s.withOutput o).schedKeyReg = s.schedKeyReg := rfl
@[simp] theorem State.withOutput_schedReset (s : State) (o : Output) : (s.withOutput o).schedReset = s.schedReset := rfl
@[simp] theorem State.withOutput_pipeIn (s : State) (o : Output) : (s.withOutput o).pipeIn = s.pipeIn := rfl
@[simp] theorem State.withOutput_ksIn (s : State) (o : Output) : (s.withOutput o).ksIn = s.ksIn := rfl
@[simp] theorem State.withOutput_harness (s : State) (o : Output) : (s.withOutput o).harness = s.harness := rfl
@[simp] theorem State.withOutput_output (s : State) (o : Output) : (s.withOutput o).output = o := rfl
@[simp] theorem State.withOutput_stimulus (s : State) (o : Output) : (s.withOutput o).stimulus = s.stimulus := rfl
@[simp] theorem State.withOutput_freeCount (s : State) (o : Output) : (s.withOutput o).freeCount = s.freeCount := rfl

/-! ## driven: only the ports, the harness words and the waiting lines can change -/

@[simp] theorem State.driven_busy (s : State) : s.driven.busy = s.busy := by
  unfold State.driven; cases s.nextLine <;> rfl
@[simp] theorem State.driven_done (s : State) : s.driven.done = s.done := by
  unfold State.driven; cases s.nextLine <;> rfl
@[simp] theorem State.driven_rc (s : State) : s.driven.rc = s.rc := by
  unfold State.driven; cases s.nextLine <;> rfl
@[simp] theorem State.driven_stateReg (s : State) : s.driven.stateReg = s.stateReg := by
  unfold State.driven; cases s.nextLine <;> rfl
@[simp] theorem State.driven_ctReg (s : State) : s.driven.ctReg = s.ctReg := by
  unfold State.driven; cases s.nextLine <;> rfl
@[simp] theorem State.driven_keyReg (s : State) : s.driven.keyReg = s.keyReg := by
  unfold State.driven; cases s.nextLine <;> rfl
@[simp] theorem State.driven_coreReset (s : State) : s.driven.coreReset = s.coreReset := by
  unfold State.driven; cases s.nextLine <;> rfl
@[simp] theorem State.driven_schedKeyReg (s : State) : s.driven.schedKeyReg = s.schedKeyReg := by
  unfold State.driven; cases s.nextLine <;> rfl
@[simp] theorem State.driven_schedReset (s : State) : s.driven.schedReset = s.schedReset := by
  unfold State.driven; cases s.nextLine <;> rfl
@[simp] theorem State.driven_output (s : State) : s.driven.output = s.output := by
  unfold State.driven; cases s.nextLine <;> rfl
@[simp] theorem State.driven_stimulus (s : State) : s.driven.stimulus = s.stimulus.tail := rfl
@[simp] theorem State.driven_freeCount (s : State) : s.driven.freeCount = s.freeCount := by
  unfold State.driven; cases s.nextLine <;> rfl

/-! ## The ports under each kind of line -/

theorem State.driven_core (s : State) (p : PipePorts) (h : s.nextLine = .core p) :
    s.driven = { s with pipeIn := p, stimulus := s.stimulus.tail } := by
  simp [State.driven, h, State.driveLine]

theorem State.driven_bus (s : State) (rst : Bool) (ws : List (HarnessReg × HarnessWord)) (h : s.nextLine = .bus rst ws) :
    s.driven = { s with harness := s.harness.writes ws, pipeIn := (s.harness.writes ws).ports rst,
                        stimulus := s.stimulus.tail } := by
  simp [State.driven, h, State.driveLine]

theorem State.driven_sched (s : State) (p : KsPorts) (h : s.nextLine = .sched p) :
    s.driven = { s with ksIn := p, stimulus := s.stimulus.tail } := by
  simp [State.driven, h, State.driveLine]

theorem State.driven_eval (s : State) (i : Instr) (h : s.nextLine = .eval i) :
    s.driven = { s with stimulus := s.stimulus.tail } := by
  simp [State.driven, h, State.driveLine]

theorem State.nextLine_nil (s : State) (h : s.stimulus = []) : s.nextLine = .core s.pipeIn := by
  simp [State.nextLine, h]

theorem State.nextLine_cons (s : State) (l : Line) (ls : List Line) (h : s.stimulus = l :: ls) : s.nextLine = l := by
  simp [State.nextLine, h]

end Sys2Proof.Machine
end

