-- ==== Sys2Proof/Laws/Step.lean ====
section
/-! SUPPORT. What a step can do, said once, and how runs unfold. -/

namespace Sys2Proof.Machine

/-- A step that goes on ran an instruction the decoder read, at an edge that was not refused. -/
theorem step_next (s t : State) (h : step s = .next t) :
    ∃ i, decode (s.driven.selection s.nextLine) = .instr i ∧ exec i s.driven = .next t ∧
      s.driven.edgeUnreset s.nextLine = false := by
  unfold step at h
  split at h
  · cases h
  · split at h
    · exact ⟨_, by assumption, h, by simp_all⟩
    · cases h

/-- The selection at a core edge. -/
theorem selection_core (s : State) (h : s.nextLine.clocksCore = true) :
    s.driven.selection s.nextLine =
      .pipe (pipeControlWord s.driven.pipeIn.rst s.driven.pipeIn.start s.busy s.rc)
        s.driven.pipeIn.keyHigh s.driven.pipeIn.keyLow s.driven.pipeIn.plaintext := by
  revert h
  cases s.nextLine <;> simp [Line.clocksCore, State.selection]

/-- When a core edge is refused. -/
theorem edgeUnreset_core (s : State) (h : s.nextLine.clocksCore = true) :
    s.driven.edgeUnreset s.nextLine = (!s.coreReset && !s.driven.pipeIn.rst) := by
  revert h
  cases s.nextLine <;> simp [Line.clocksCore, State.edgeUnreset]

@[simp] theorem run_zero (s : State) : run 0 s = .next s := rfl

/-- A run that begins with a step that goes on. -/
theorem run_succ_next (k : Nat) (s t : State) (h : step s = .next t) : run (k + 1) s = run k t := by
  have h' : core.step s = .next t := h
  refine (Host.Core.run.eq_2 core s k).trans ?_
  simp only [h']
  rfl

/-- A run that begins with a step that faults. -/
theorem run_succ_fault (k : Nat) (s : State) (f : Fault) (h : step s = .fault f) : run (k + 1) s = .fault f := by
  have h' : core.step s = .fault f := h
  refine (Host.Core.run.eq_2 core s k).trans ?_
  simp only [h']
  rfl

/-- A run that begins with a step that is refused. -/
theorem run_succ_refused (k : Nat) (s : State) (r : Refusal) (h : step s = .refused r) :
    run (k + 1) s = .refused r := by
  have h' : core.step s = .refused r := h
  refine (Host.Core.run.eq_2 core s k).trans ?_
  simp only [h']
  rfl

/-- A run ends with a step. -/
theorem run_snoc (k : Nat) (s t : State) (h : run k s = .next t) : run (k + 1) s = step t := by
  induction k generalizing s with
  | zero =>
    have : s = t := by simpa using h
    subst this
    cases hs : step s with
    | next u => rw [run_succ_next 0 s u hs, run_zero]
    | fault f => rw [run_succ_fault 0 s f hs]
    | refused r => rw [run_succ_refused 0 s r hs]
  | succ k ih =>
    cases hs : step s with
    | next u => rw [run_succ_next _ s u hs] at h ⊢; exact ih u h
    | fault f => rw [run_succ_fault _ s f hs] at h; cases h
    | refused r => rw [run_succ_refused _ s r hs] at h; cases h

end Sys2Proof.Machine
end

