-- ==== Sys2Proof/Tests/Slice0.lean ====
section
/-! SUPPORT. The model's own tests. Expected values come from the spec: the words from R57 and R59, the results from
95_test_vectors.md (V<n>, programs L<n>). Then a witness for the hypotheses of each statement that has some. -/

namespace Sys2Proof.Tests

open Sys2Proof.Machine

/-! ## Helpers -/

/-- A small state: reset, idle, every bit 0, data registers ⊥. -/
def quiet : State :=
  { busy := false, done := false, rc := 0, stateReg := ⟨0, false⟩, ctReg := ⟨0, false⟩, keyReg := ⟨0, false⟩
    coreReset := true, schedKeyReg := ⟨0, false⟩, schedReset := true, pipeIn := PipePorts.idle, ksIn := KsPorts.idle
    harness := Harness.zero, output := .nothing, stimulus := [], freeCount := 0 }

/-- The core with an encryption at counter `rc`. -/
def busyAt (rc : Counter) (st : Block) (k : Key) : State :=
  { quiet with busy := true, rc := rc, stateReg := ⟨st, true⟩, keyReg := ⟨k, true⟩ }

/-- The outcome is a next state that passes a check. -/
def nextIs (o : Host.Outcome State Fault Refusal) (check : State → Bool) : Bool :=
  match o with
  | .next t => check t
  | .fault _ => false
  | .refused _ => false

/-- The outcome is a fault. -/
def faultIs (o : Host.Outcome State Fault Refusal) (f : Fault) : Bool :=
  match o with
  | .next _ => false
  | .fault g => g == f
  | .refused _ => false

/-- The outcome is a refusal. -/
def refusalIs (o : Host.Outcome State Fault Refusal) (r : Refusal) : Bool :=
  match o with
  | .next _ => false
  | .fault _ => false
  | .refused q => q == r

/-- An evaluation gives this output and changes nothing else. -/
def gives (i : Instr) (o : Output) : Bool :=
  nextIs (exec i quiet) (fun t => t == { quiet with output := o })

/-- The core's ports under R66's `GO`. -/
def goPorts (key : Key) (pt : Block) : PipePorts :=
  { rst := false, start := true, keyHigh := highOf key, keyLow := key.extractLsb' 0 16, plaintext := pt }

/-- The ports of a NOP. -/
def nop : Line := nopLine PipePorts.idle

/-- V16's key Kx. -/
def kx : Key := 0x0123456789ABCDEF0123

/-- V16's block X. -/
def bx : Block := 0x0123456789ABCDEF

/-! ## WellFormed refuses what has no encoding (R57) -/

theorem test_wf_round_0 : (Instr.pipeRound 0).wellFormed = false := by decide
theorem test_wf_round_31 : (Instr.pipeRound 31).wellFormed = false := by decide
theorem test_wf_round_1_30 : (Instr.pipeRound 1).wellFormed && (Instr.pipeRound 30).wellFormed = true := by decide

/-! ## Decoding of words written out from the spec's encodings -/

theorem test_decode_pipeReset : decodeTableWord 8 0b10000000 = some .pipeReset := by decide
theorem test_decode_pipeReset_any : decodeTableWord 8 0b11111111 = some .pipeReset := by decide
theorem test_decode_pipeBadstate : decodeTableWord 8 0b00100000 = some .pipeBadstate := by decide
theorem test_decode_pipeLast : decodeTableWord 8 0b00111111 = some .pipeLast := by decide
theorem test_decode_pipeRound_1 : decodeTableWord 8 0b01100001 = some (.pipeRound 1) := by decide
theorem test_decode_pipeRound_30 : decodeTableWord 8 0b00111110 = some (.pipeRound 30) := by decide
theorem test_decode_pipeLoad : decodeTableWord 8 0b01000000 = some (.pipeLoad 0 0 0) := by decide
theorem test_decode_pipeLoad_rc5 : decode (.pipe 0x45 1 2 3) = .instr (.pipeLoad 1 2 3) := by decide
theorem test_decode_pipeIdle : decodeTableWord 8 0b00000000 = some .pipeIdle := by decide
theorem test_decode_ksReset : decodeTableWord 3 0b100 = some .ksReset := by decide
theorem test_decode_ksReset_byte : decodeTableWord 8 0b00000100 = some .ksReset := by decide
theorem test_decode_ksLoad : decode (.ks 0b011 1 2 3) = .instr (.ksLoad 1 2) := by decide
theorem test_decode_ksAdvance : decode (.ks 0b001 1 2 3) = .instr (.ksAdvance 3) := by decide
theorem test_decode_ksHold : decodeTableWord 3 0b000 = some .ksHold := by decide
theorem test_decode_comb : decode (.named (.sbox4 5)) = .instr (.sbox4 5) := by decide
theorem test_decode_func : decode (.named (.ksRotl61 5)) = .instr (.ksRotl61 5) := by decide
theorem test_decode_named_cycle : decode (.named .pipeIdle) = .rejected .needsControlWord := by decide
theorem test_decode_no_such_width : decodeTableWord 16 0 = none := by decide

/-- V16's census: how many of the 256 control words select an operation. -/
def census (op : PipeOp) : Nat :=
  (List.range 256).countP (fun n => firstMatch pipeTable (BitVec.ofNat 8 n) == some op)

theorem test_decode_census : [census .idle, census .badstate, census .round, census .last, census .load,
    census .reset] = [32, 2, 60, 2, 32, 128] := by decide +kernel

/-! ## The table word placed by the host runs as the first instruction after reset -/

theorem test_fetch_pipeLoad :
    nextIs (step (State.reset.withFetchWord 8 0x40)) (fun t => t.busy && t.rc == 1 && t.stateReg == ⟨0, true⟩) = true := by
  decide
theorem test_fetch_pipeLast :
    nextIs (step (State.reset.withFetchWord 8 0x3F)) (fun t => t.done && !t.busy && t.rc == 0) = true := by decide
theorem test_fetch_pipeBadstate : faultIs (step (State.reset.withFetchWord 8 0x60)) .badControlState = true := by decide
theorem test_fetch_ksLoad :
    nextIs (step (State.reset.withFetchWord 3 0b010)) (fun t => t.schedKeyReg == ⟨0, true⟩) = true := by decide

/-! ## Combinational operations -/

/-- V6. -/
theorem test_sbox4 : gives (.sbox4 0xD) (.nibble 0x7) = true := by decide
/-- V7. -/
theorem test_sboxLayer : gives (.sboxLayer 0x0123456789ABCDEF) (.block 0xC56B90AD3EF84712) = true := by decide +kernel
theorem test_sboxLayer_ends : gives (.sboxLayer 0x8000000000000001) (.block 0x3CCCCCCCCCCCCCC5) = true := by
  decide +kernel
/-- V10. -/
theorem test_pLayer : gives (.pLayer 0x0123456789ABCDEF) (.block 0x00FF0F0F33335555) = true := by decide +kernel
theorem test_pLayer_bit62 : gives (.pLayer 0x4000000000000000) (.block 0x0000800000000000) = true := by decide +kernel
/-- V10 by the document's form. -/
theorem test_pLayerDocument : pLayerDocument 0x0123456789ABCDEF = 0x00FF0F0F33335555 := by decide +kernel
/-- L4 edge 3: the scheduler's outputs with `rc` driven to 9. -/
theorem test_ksRoundKey :
    nextIs (exec .ksRoundKey { quiet with schedKeyReg := ⟨0x2FFFFFFFFFFFFFFF7FFF, true⟩ })
      (fun t => t.output == .roundKey ⟨0x2FFFFFFFFFFFFFFF, true⟩) = true := by decide +kernel
theorem test_ksNextRoundKey :
    nextIs (exec .ksNextRoundKey { quiet with schedKeyReg := ⟨0x2FFFFFFFFFFFFFFF7FFF, true⟩,
                                              ksIn := { KsPorts.idle with rc := 9 } })
      (fun t => t.output == .roundKey ⟨0x1FFFE5FFFFFFFFFB, true⟩) = true := by decide +kernel

/-! ## Specification functions -/

/-- V11: the left rotation, not the rejected right one (C1). -/
theorem test_ksRotl61 : gives (.ksRotl61 kx) (.key 0xE024602468ACF13579BD) = true := by decide +kernel
theorem test_ksRotl61_bit19 : gives (.ksRotl61 0x00000000000000080000) (.key 0x00000000000000000001) = true := by
  decide +kernel
/-- V12. -/
theorem test_ksSubtop : gives (.ksSubtop 0xE024602468ACF13579BD) (.key 0x1024602468ACF13579BD) = true := by
  decide +kernel
theorem test_ksMixrc : gives (.ksMixrc 0x1024602468ACF13579BD 2) (.key 0x1024602468ACF13479BD) = true := by
  decide +kernel
theorem test_ksMixrc_31 : gives (.ksMixrc 0 31) (.key 0x000000000000000F8000) = true := by decide +kernel
theorem test_ksUpdate : gives (.ksUpdate kx 1) (.key 0x1024602468ACF135F9BD) = true := by decide +kernel
theorem test_ksUpdate_16 : gives (.ksUpdate 0x80000000000000000000 16) (.key 0xC0001000000000080000) = true := by
  decide +kernel
/-- V8, last round key of key 0; V9, round key 16 of the all-one key. -/
theorem test_generateRoundKeys :
    nextIs (exec (.generateRoundKeys 0) quiet)
      (fun t => t.output == .schedule (generateRoundKeys 0) && (generateRoundKeys 0)[31] == 0x6DAB31744F41D700) = true := by
  decide +kernel
theorem test_generateRoundKeys_ones : (generateRoundKeys (BitVec.allOnes 80))[16] = 0xCEFC0BC7E9B946D7 := by
  decide +kernel
/-- V13. -/
theorem test_roundFn : gives (.roundFn 0x3FFFFFFF00000000 0xC000000000000000) (.block 0x00FF00FFFF000000) = true := by
  decide +kernel
/-- V1, by the function of a schedule. -/
theorem test_encrypt : gives (.encrypt 0 (generateRoundKeys 0)) (.block 0x5579C1387B228445) = true := by decide +kernel
/-- V15. -/
theorem test_present80 : gives (.present80 bx kx) (.block 0xF8DD50531D973BDE) = true := by decide +kernel
theorem test_present80_low_key_bit : gives (.present80 0 1) (.block 0x11B37CEBD24A2E2C) = true := by decide +kernel

/-! ## Cycle operations of the core (V16) -/

/-- Row 1. -/
theorem test_pipeReset :
    nextIs (exec .pipeReset (busyAt 5 0x3C3C3C3C3C3C3C3C 0xB0000C00014000620000))
      (fun t => !t.busy && !t.done && t.rc == 0 && !t.stateReg.held && !t.keyReg.held && !t.ctReg.held) = true := by decide
/-- Row 3. -/
theorem test_pipeIdle :
    nextIs (exec .pipeIdle { quiet with done := true, ctReg := ⟨0x5579C1387B228445, true⟩ })
      (fun t => t == { quiet with done := true, ctReg := ⟨0x5579C1387B228445, true⟩ }) = true := by decide
/-- Row 4. -/
theorem test_pipeLoad :
    nextIs (exec (.pipeLoad (highOf kx) (kx.extractLsb' 0 16) bx)
        { quiet with done := true, ctReg := ⟨0x5579C1387B228445, true⟩ })
      (fun t => t.busy && !t.done && t.rc == 1 && t.stateReg == ⟨bx, true⟩ && t.keyReg == ⟨kx, true⟩ &&
        t.ctReg == ⟨0x5579C1387B228445, true⟩) = true := by decide +kernel
/-- Row 6. -/
theorem test_pipeRound :
    nextIs (exec (.pipeRound 1) (busyAt 1 0 0))
      (fun t => t.busy && !t.done && t.rc == 2 && t.stateReg == ⟨0xFFFFFFFF00000000, true⟩ &&
        t.keyReg == ⟨0xC0000000000000008000, true⟩ && !t.ctReg.held) = true := by decide +kernel
/-- Row 8. -/
theorem test_pipeRound_30 :
    nextIs (exec (.pipeRound 30) (busyAt 30 0xC79B8FF00A48DF35 0xD075C3C1D6336ACDDD13))
      (fun t => t.rc == 31 && t.stateReg == ⟨0x4A38C5E00283FBA1, true⟩ && t.keyReg == ⟨0x8BA27A0EB8783AC96D59, true⟩)
      = true := by decide +kernel
/-- Row 9. -/
theorem test_pipeLast :
    nextIs (exec .pipeLast (busyAt 31 0x4A38C5E00283FBA1 0x8BA27A0EB8783AC96D59))
      (fun t => !t.busy && t.done && t.rc == 0 && t.stateReg == ⟨0x5579C1387B228445, true⟩ &&
        t.keyReg == ⟨0x6DAB31744F41D7008759, true⟩ && t.ctReg == ⟨0x5579C1387B228445, true⟩) = true := by
  decide +kernel
theorem test_pipeBadstate : faultIs (exec .pipeBadstate (busyAt 0 0 0)) .badControlState = true := by decide

/-- Rows 7 and 2 as steps: `start` is ignored while busy; `rst` wins over `start`. -/
theorem test_step_start_ignored :
    nextIs (step { busyAt 1 0 0 with stimulus := [goLine kx bx] })
      (fun t => t.rc == 2 && t.stateReg == ⟨0xFFFFFFFF00000000, true⟩) = true := by decide +kernel
theorem test_step_reset_wins :
    nextIs (step { quiet with done := true, stimulus := [.core { goPorts kx bx with rst := true }] })
      (fun t => !t.busy && !t.done && t.rc == 0) = true := by decide
/-- "Refused stimulus": a program that begins with GO. -/
theorem test_step_unreset_refused :
    refusalIs (step { State.powerOn with stimulus := [goLine kx bx] }) .unresetEdge = true := by decide
/-- A cycle operation named in an `eval` line is refused by name. -/
theorem test_step_named_cycle_refused :
    refusalIs (step { quiet with stimulus := [.eval .pipeLast] }) (.undecodable .needsControlWord) = true := by decide
/-- L5: the harness's words start one encryption of X under Kx; KEY2's upper half is ignored (V19). -/
theorem test_step_bus :
    nextIs (step { quiet with stimulus := [.bus false [(.key0, 0x01234567), (.key1, 0x89ABCDEF), (.key2, 0xFFFF0123),
        (.pt0, 0x01234567), (.pt1, 0x89ABCDEF), (.status, 7), (.config, 1)]] })
      (fun t => t.stateReg == ⟨bx, true⟩ && t.keyReg == ⟨kx, true⟩ && t.readHarness .status == some 1) = true := by
  decide +kernel
/-- V19. -/
theorem test_harness_ct :
    ({ quiet with ctReg := ⟨0xF8DD50531D973BDE, true⟩ } : State).readHarness .ct0 = some 0xF8DD5053 ∧
    ({ quiet with ctReg := ⟨0xF8DD50531D973BDE, true⟩ } : State).readHarness .ct1 = some 0x1D973BDE ∧
    quiet.readHarness .ct0 = none := by decide +kernel
/-- A read and a write by address, for one REG_MAP. -/
theorem test_harness_bus :
    let m : RegMap := ⟨0, 4, 8, 12, 16, 20, 24, 28, 32⟩
    quiet.busRead m 0 = some 0 ∧ quiet.busRead m 1 = none ∧ busWrites m [(4, 1), (5, 9), (24, 2)] = [(.config, 1), (.pt1, 2)] := by
  decide

/-! ## Cycle operations of the standalone key scheduler (V18) -/

theorem test_ksReset :
    nextIs (exec .ksReset { quiet with schedKeyReg := ⟨BitVec.allOnes 80, true⟩ }) (fun t => !t.schedKeyReg.held) = true := by
  decide
theorem test_ksLoad :
    nextIs (exec (.ksLoad (highOf kx) (kx.extractLsb' 0 16)) quiet) (fun t => t.schedKeyReg == ⟨kx, true⟩) = true := by
  decide +kernel
theorem test_ksAdvance :
    nextIs (exec (.ksAdvance 1) { quiet with schedKeyReg := ⟨BitVec.allOnes 80, true⟩ })
      (fun t => t.schedKeyReg == ⟨0x2FFFFFFFFFFFFFFF7FFF, true⟩) = true := by decide +kernel
/-- Advancing ⊥ gives ⊥ (R97), with counter 0 (R64). -/
theorem test_ksAdvance_bottom :
    nextIs (exec (.ksAdvance 0) quiet) (fun t => t.schedKeyReg == ⟨0xC0000000000000000000, false⟩) = true := by
  decide +kernel
theorem test_ksHold : nextIs (exec .ksHold quiet) (fun t => t == quiet) = true := by decide
/-- V18, row 0b011: load wins over advance. -/
theorem test_step_load_wins :
    nextIs (step { quiet with stimulus := [kloadadvLine kx 1] }) (fun t => t.schedKeyReg == ⟨kx, true⟩) = true := by
  decide +kernel

/-! ## From power-on to `State.reset` -/

/-- The lines RESET, KRESET, NOP, KHOLD lead from power-on to `State.reset` exactly. -/
theorem test_powerOn_reaches_reset :
    run 4 { State.powerOn with stimulus :=
      [resetLine PipePorts.idle, kresetLine KsPorts.idle, nopLine PipePorts.idle, kholdLine KsPorts.idle] } =
    .next State.reset := by
  have h : ∀ a b c, firstMatch pipeTable (pipeControlWord true a b c) = some .reset := by decide +kernel
  have h1 : ∀ ls : List Line, step { State.powerOn with stimulus := resetLine PipePorts.idle :: ls } =
      .next { State.powerOn.resetCore with pipeIn := { PipePorts.idle with rst := true }, stimulus := ls } := by
    intro ls
    show (match decodePipe (pipeControlWord true false Config.powerOnBusy Config.powerOnRc) 0 0 0 with
      | .instr i => exec i _
      | .rejected e => _) = _
    rw [decodePipe, h]
    rfl
  rw [run_succ_next _ _ _ (h1 _)]
  rfl

/-! ## Witnesses: a state and operands that meet the hypotheses of each statement that has some -/

/-- PipeControlWordIsPortsAndRegisters. -/
theorem witness_clocksCore : quiet.nextLine.clocksCore = true := by decide
/-- KsControlWordIsPorts. -/
theorem witness_sched_line :
    ({ quiet with stimulus := [kadvLine KsPorts.idle 31] } : State).stimulus =
      .sched { KsPorts.idle with advance := true, rc := 31 } :: [] := by decide
/-- PipeDecodeIsFirstMatchOfTheTable, last clause, at its boundary words. -/
theorem witness_idle_words :
    decode (.pipe 0x00 0 0 0) = .instr .pipeIdle ∧ decode (.pipe 0x1F 0 0 0) = .instr .pipeIdle := by decide
/-- KsDecodeIsFirstMatchOfTheTable, last clause. -/
theorem witness_hold_word : decode (.ks 0 0 0 0) = .instr .ksHold := by decide
/-- DecodeOfEncodeIsTheInstruction, at the boundary values of the one checked operand. -/
theorem witness_wellFormed : (Instr.pipeRound 1).wellFormed = true ∧ (Instr.pipeRound 30).wellFormed = true := by decide
/-- DecodedIsWellFormedAndOfItsFormat, one selection of each kind and one rejected. -/
theorem witness_decoded :
    decode (.named (.pLayer 1)) = .instr (.pLayer 1) ∧ decode (.pipe 0x3E 0 0 0) = .instr (.pipeRound 30) ∧
    decode (.ks 0b001 0 0 31) = .instr (.ksAdvance 31) ∧ Instr.ksHold.format = .ksCw := by decide
/-- RoundFnIsXorSubstitutePermute, second clause. -/
theorem witness_equal_xor : (0 : Block) ^^^ 0 = 0xFFFFFFFFFFFFFFFF ^^^ 0xFFFFFFFFFFFFFFFF := by decide
/-- PipeRoundDoesOneRoundAndOneKeyUpdate, at both ends of its range. -/
theorem witness_round_range :
    (1 ≤ (1 : Counter).toNat ∧ (1 : Counter).toNat ≤ 30) ∧ (1 ≤ (30 : Counter).toNat ∧ (30 : Counter).toNat ≤ 30) := by
  decide
/-- EmbeddedSchedulerFollowsThePipeline: a busy core at a NOP line. -/
theorem witness_embedded :
    (busyAt 1 0 0).nextLine.clocksCore = true ∧
    firstMatch pipeTable (pipeControlWord (busyAt 1 0 0).driven.pipeIn.rst (busyAt 1 0 0).driven.pipeIn.start
      (busyAt 1 0 0).busy (busyAt 1 0 0).rc) = some .round ∧
    decode ((busyAt 1 0 0).driven.selection (busyAt 1 0 0).nextLine) = .instr (.pipeRound 1) ∧
    nextIs (exec (.pipeRound 1) (busyAt 1 0 0).driven) (fun _ => true) = true := by decide
/-- RegistersChangeOnlyByTheirWriters and InstancesShareNoState: steps of the core, of the scheduler, of neither. -/
theorem witness_steps_of_each_unit :
    nextIs (step { quiet with stimulus := [goLine kx bx] }) (fun t => t.keyReg != quiet.keyReg) = true ∧
    nextIs (step { quiet with stimulus := [kloadadvLine kx 0] }) (fun t => t.schedKeyReg != quiet.schedKeyReg) = true ∧
    nextIs (step { quiet with stimulus := [.eval (.sbox4 0)] }) (fun t => t.output != quiet.output) = true := by
  decide +kernel
/-- StepRunsTheSelectedInstruction. -/
theorem witness_selected :
    quiet.driven.edgeUnreset quiet.nextLine = false ∧ decode (quiet.driven.selection quiet.nextLine) = .instr .pipeIdle := by
  decide
/-- UnresetCoreTakesOnlyAReset: both clauses. -/
theorem witness_unreset :
    State.powerOn.coreReset = false ∧ State.powerOn.nextLine.clocksCore = true ∧ State.powerOn.driven.pipeIn.rst = false ∧
    ({ State.powerOn with stimulus := [resetLine PipePorts.idle] } : State).driven.pipeIn.rst = true := by decide
/-- ResetWinsAtEveryState: a reset in mid-encryption, by a harness line. -/
theorem witness_reset_edge :
    ({ busyAt 5 0 0 with stimulus := [.bus true []] } : State).nextLine.clocksCore = true ∧
    ({ busyAt 5 0 0 with stimulus := [.bus true []] } : State).driven.pipeIn.rst = true := by decide
/-- IdleCoreKeepsItsState. -/
theorem witness_idle :
    quiet.coreReset = true ∧ quiet.busy = false ∧ quiet.nextLine.clocksCore = true ∧ quiet.driven.pipeIn.rst = false ∧
    quiet.driven.pipeIn.start = false := by decide

/-- A core about to load V1's request, with 31 lines of changing inputs after it. -/
def loading : State :=
  { quiet with stimulus := goLine 0 0 :: (repeatLine 15 (goLine kx bx) ++ waitLines 16 PipePorts.idle) }

/-- IdleCoreAcceptsStart, EncryptionAdvancesRoundByRound (first clause), LatencyIs31EdgesAfterLoad, CoreComputesPresent80;
and the same with the levels held after the lines run out. -/
theorem witness_loading :
    loading.AboutToLoad ∧ loading.NoResetFor 32 ∧
    ({ quiet with pipeIn := goPorts kx bx } : State).AboutToLoad ∧
    ({ quiet with pipeIn := goPorts kx bx } : State).NoResetFor 32 := by
  refine ⟨?_, ?_, ?_, ?_⟩
  · unfold State.AboutToLoad; decide
  · unfold State.NoResetFor; decide
  · unfold State.AboutToLoad; decide
  · unfold State.NoResetFor; decide
/-- ResultDependsOnlyOnTheSampledInputs: another state with the same request. -/
theorem witness_same_request :
    ({ quiet with done := true, pipeIn := goPorts 0 0 } : State).AboutToLoad ∧
    ({ quiet with done := true, pipeIn := goPorts 0 0 } : State).NoResetFor 32 ∧
    loading.driven.keyOnPorts = ({ quiet with done := true, pipeIn := goPorts 0 0 } : State).driven.keyOnPorts ∧
    loading.driven.pipeIn.plaintext =
      ({ quiet with done := true, pipeIn := goPorts 0 0 } : State).driven.pipeIn.plaintext := by
  refine ⟨?_, ?_, ?_, ?_⟩
  · unfold State.AboutToLoad; decide
  · unfold State.NoResetFor; decide
  · decide
  · decide
/-- BusyCoreIgnoresStartAndData, at both ends of the counter's range. -/
theorem witness_busy :
    (busyAt 1 0 0).coreReset = true ∧ (busyAt 1 0 0).busy = true ∧ (busyAt 1 0 0).rc ≠ 0 ∧ (busyAt 31 0 0).rc ≠ 0 ∧
    (goPorts kx bx).rst = false ∧ PipePorts.idle.rst = false := by decide
/-- BusyFallsOnlyWithAWholeCiphertext. -/
theorem witness_busy_falls :
    nextIs (step (busyAt 31 0 0)) (fun t => !t.busy) = true ∧ (busyAt 31 0 0).busy = true ∧
    (busyAt 31 0 0).driven.pipeIn.rst = false := by decide
/-- LegalStatesGoOn, PipeBadstateFaultsAndIsUnreachable, StepKeepsInv, StepKeepsPublishedInv: states that satisfy INV, idle and
busy at both ends, and steps from them. -/
theorem witness_inv :
    quiet.coreReset = true ∧ quiet.schedReset = true ∧ quiet.Inv ∧ (busyAt 1 0 0).Inv ∧ (busyAt 31 0 0).Inv ∧
    (∀ i, quiet.nextLine = .eval i → i.format = .comb ∨ i.format = .func) ∧
    nextIs (step (busyAt 1 0 0)) (fun t => t.rc == 2) = true := by
  refine ⟨rfl, rfl, ?_, ?_, ?_, ?_, by decide⟩
  · unfold State.Inv; decide
  · unfold State.Inv; decide
  · unfold State.Inv; decide
  · intro i h; cases h
/-- LegalStatesGoOn at an `eval` line. -/
theorem witness_eval_line :
    ∀ i, ({ quiet with stimulus := [.eval (.roundFn 0 0)] } : State).nextLine = .eval i → i.format = .comb ∨ i.format = .func := by
  intro i h
  injection h with h
  subst h
  exact .inr rfl
/-- StepKeepsInv, second clause: a reset edge that is taken. -/
theorem witness_reset_taken :
    nextIs (step { busyAt 5 0 0 with stimulus := [resetLine PipePorts.idle] }) (fun t => t.coreReset) = true ∧
    ({ busyAt 5 0 0 with stimulus := [resetLine PipePorts.idle] } : State).driven.pipeIn.rst = true := by decide
/-- StepKeepsPublishedInv: a published result. -/
theorem witness_published :
    ({ quiet with done := true, ctReg := ⟨7, true⟩ } : State).Inv ∧
    ({ quiet with done := true, ctReg := ⟨7, true⟩ } : State).PublishedInv ∧
    nextIs (step { quiet with done := true, ctReg := ⟨7, true⟩ }) (fun t => t.done) = true := by
  refine ⟨?_, ?_, by decide⟩
  · unfold State.Inv; decide
  · unfold State.PublishedInv; decide
/-- EncryptionAdvancesRoundByRound, second clause at n = 1, and third clause with an edge of the scheduler. -/
theorem witness_encrypting :
    (busyAt 1 0 0).Encrypting 0 0 1 ∧ (busyAt 1 0 0).nextLine.clocksCore = true ∧
    (busyAt 1 0 0).driven.pipeIn.rst = false ∧
    ({ busyAt 1 0 0 with stimulus := [kholdLine KsPorts.idle] } : State).Encrypting 0 0 1 ∧
    ({ busyAt 1 0 0 with stimulus := [kholdLine KsPorts.idle] } : State).nextLine.clocksCore = false ∧
    nextIs (step { busyAt 1 0 0 with stimulus := [kholdLine KsPorts.idle] }) (fun _ => true) = true := by
  refine ⟨?_, by decide, by decide, ?_, by decide, by decide⟩
  · exact ⟨by decide, by decide, rfl, rfl, rfl, rfl, rfl, rfl⟩
  · exact ⟨by decide, by decide, rfl, rfl, rfl, rfl, rfl, rfl⟩
/-- EncryptionAdvancesRoundByRound, second clause at its other end, n = 30: V14's state before round 29 and V8's KR_29. -/
theorem witness_encrypting_30 :
    (busyAt 30 0xC79B8FF00A48DF35 0xD075C3C1D6336ACDDD13).Encrypting 0 0 30 := by
  unfold State.Encrypting
  decide +kernel
/-- HeldStartRunsBackToBack. -/
theorem witness_held_start :
    let s : State := { busyAt 31 0 0 with stimulus := [goLine kx bx, goLine kx bx] }
    s.coreReset = true ∧ s.busy = true ∧ s.rc = 31 ∧
    s.stimulus = .core (goPorts kx bx) :: .core (goPorts kx bx) :: [] ∧ (goPorts kx bx).rst = false ∧
    (goPorts kx bx).start = true := by decide
/-- StandaloneSchedulerProducesTheSchedule: L4's edges 5 to 8 with a hold among them; and no advance at all. -/
theorem witness_ks_trace :
    ksTrace 0 [{ KsPorts.idle with advance := true, rc := 1 }, { KsPorts.idle with rc := 9 },
      { KsPorts.idle with advance := true, rc := 2 }, { KsPorts.idle with advance := true, rc := 3 }] = some 3 ∧
    ksTrace 0 [] = some 0 ∧ ksTrace 30 [{ KsPorts.idle with advance := true, rc := 31 }] = some 31 ∧
    quiet.schedReset = true ∧
    ({ quiet with stimulus := [.sched { KsPorts.idle with load := true }] } : State).stimulus =
      .sched { KsPorts.idle with load := true } :: ([] : List KsPorts).map .sched ++ [] := by decide
/-- SchedulerOutputsFollowKeyReg, second clause, at both ends of its range. -/
theorem witness_schedule_index : (1 ≤ 1 ∧ 1 ≤ 31) ∧ (1 ≤ 31 ∧ 31 ≤ 31) := by decide
/-- HarnessWordsDriveThePorts, last clause: two KEY2 words that differ only in the upper half. -/
theorem witness_key2 : (0xFFFF0123 : HarnessWord).extractLsb' 0 16 = (0x00000123 : HarnessWord).extractLsb' 0 16 := by decide
/-- HarnessReadsStatusAndCiphertext: a held and a ⊥ `ct_reg`. -/
theorem witness_ct_held :
    ({ quiet with ctReg := ⟨5, true⟩ } : State).ctReg.held = true ∧ quiet.ctReg.held = false := by decide
/-- HarnessWritesOnlyItsOwnWords: each clause. -/
theorem witness_harness_regs :
    HarnessReg.status = .status ∧ HarnessReg.key0 ≠ .status ∧ HarnessReg.key0 ≠ .ct0 ∧ HarnessReg.key0 ≠ .ct1 ∧
    HarnessReg.key1 ≠ .key0 := by decide

end Sys2Proof.Tests
end

/-! # Proofs: decoding of a core edge

PROOFS. What a control word made of ports and control registers decodes to, and of what format a decoded
instruction is (R55 to R57). -/

namespace Sys2Proof

/-- R57 in the words of its condition column: the row that a control word selects, told from its four fields. -/
theorem firstMatch_pipeControlWord : ∀ (rst start busy : Bool) (rc : Counter),
    firstMatch pipeTable (pipeControlWord rst start busy rc) =
      some (if rst then .reset
        else if busy then (if rc = 0 then .badstate else if rc = 31 then .last else .round)
        else if start then .load else .idle) := by
  decide

/-- R56: the low five bits of a control word are the counter. -/
@[simp] theorem pipeControlWord_counter (rst start busy : Bool) (rc : Counter) :
    (pipeControlWord rst start busy rc).extractLsb' 0 5 = rc :=
  BitVec.extractLsb'_append_eq_right

/-- The instruction that a control word selects, told from its four fields (R56, R57). -/
theorem decode_pipeControlWord (rst start busy : Bool) (rc : Counter) (kh : Block) (kl : KeyLow) (pt : Block) :
    decode (.pipe (pipeControlWord rst start busy rc) kh kl pt) =
      .instr (if rst then .pipeReset
        else if busy then (if rc = 0 then .pipeBadstate else if rc = 31 then .pipeLast else .pipeRound rc)
        else if start then .pipeLoad kh kl pt else .pipeIdle) := by
  simp only [decode, decodePipe, firstMatch_pipeControlWord, pipeControlWord_counter]
  split_ifs <;> rfl

/-- R55: what is decoded belongs to the format of what selected it. -/
theorem format_of_decode (sel : Selection) (i : Instr) (h : decode sel = .instr i) : i.format = sel.format := by
  cases sel with
  | pipe cw kh kl pt =>
    simp only [decode, decodePipe] at h
    split at h <;> cases h <;> rfl
  | ks kcw kh kl rc =>
    simp only [decode, decodeKs] at h
    split at h <;> cases h <;> rfl
  | named j =>
    simp only [decode] at h
    split at h <;> cases h <;> rfl

/-- R61: an instruction decoded from a name is the one named, and has no control word. -/
theorem decode_named {i j : Instr} (h : decode (.named j) = .instr i) :
    j = i ∧ (i.format = .comb ∨ i.format = .func) := by
  simp only [decode] at h
  split at h
  case h_1 hfmt => cases h; exact ⟨rfl, .inl hfmt⟩
  case h_2 hfmt => cases h; exact ⟨rfl, .inr hfmt⟩
  all_goals cases h

end Sys2Proof

/-! # Proofs: the edges of the core

PROOFS. One equation of `step` for each operation of the core (R57, R120 to R125), the inversion of a core edge, and
what every other step leaves unchanged (R150). -/

namespace Sys2Proof.Machine

/-- A step whose edge is not refused runs what its selection decodes to. -/
theorem step_eq_exec {s : State} {i : Instr} (hedge : s.driven.edgeUnreset s.nextLine = false)
    (hdec : decode (s.driven.selection s.nextLine) = .instr i) : step s = exec i s.driven := by
  simp [step, hedge, hdec]

section CoreEdge

variable {s t : State} (hcore : s.nextLine.clocksCore = true)
include hcore

/-- A core edge runs what the ports and the control registers say, unless R161 refuses it. -/
theorem step_core (htaken : s.coreReset = true ∨ s.driven.pipeIn.rst = true) :
    step s = exec
      (if s.driven.pipeIn.rst then .pipeReset
        else if s.busy then (if s.rc = 0 then .pipeBadstate else if s.rc = 31 then .pipeLast else .pipeRound s.rc)
        else if s.driven.pipeIn.start then
          .pipeLoad s.driven.pipeIn.keyHigh s.driven.pipeIn.keyLow s.driven.pipeIn.plaintext
        else .pipeIdle) s.driven := by
  refine step_eq_exec ?_ ?_
  · rw [edgeUnreset_core s hcore]
    rcases htaken with h | h <;> simp [h]
  · rw [selection_core s hcore, decode_pipeControlWord]

/-- R161: an edge with `rst = 0` of a core that was never reset is refused. -/
theorem step_core_unreset (hunreset : s.coreReset = false) (hrst : s.driven.pipeIn.rst = false) :
    step s = .refused .unresetEdge := by
  simp [step, edgeUnreset_core s hcore, hunreset, hrst]

/-- R120, R160: an edge with `rst = 1` is a reset. -/
theorem step_core_reset (hrst : s.driven.pipeIn.rst = true) : step s = .next s.driven.resetCore := by
  rw [step_core hcore (.inr hrst), if_pos hrst]
  rfl

section Running

variable (hreset : s.coreReset = true) (hrst : s.driven.pipeIn.rst = false)
include hreset hrst

/-- R122: an idle core with `start = 1` accepts the request. -/
theorem step_core_load (hbusy : s.busy = false) (hstart : s.driven.pipeIn.start = true) :
    step s = .next (s.driven.acceptRequest s.driven.pipeIn.keyHigh s.driven.pipeIn.keyLow
      s.driven.pipeIn.plaintext) := by
  simp [step_core hcore (.inl hreset), hrst, hbusy, hstart, exec, execPipeLoad]

/-- R121: an idle core with `start = 0` keeps its registers. -/
theorem step_core_idle (hbusy : s.busy = false) (hstart : s.driven.pipeIn.start = false) :
    step s = .next s.driven := by
  simp [step_core hcore (.inl hreset), hrst, hbusy, hstart, exec, execPipeIdle]

/-- R62: the control state `busy = 1, rc = 0` faults. -/
theorem step_core_badstate (hbusy : s.busy = true) (hrc : s.rc = 0) : step s = .fault .badControlState := by
  simp [step_core hcore (.inl hreset), hrst, hbusy, hrc, exec, execPipeBadstate]

/-- R123: a busy core with a counter that is neither 0 nor 31 does one round. -/
theorem step_core_round (hbusy : s.busy = true) (h0 : s.rc ≠ 0) (h31 : s.rc ≠ 31) :
    step s = .next (s.driven.advanceRound s.rc) := by
  rw [step_core hcore (.inl hreset), hrst, hbusy, if_neg Bool.false_ne_true, if_pos rfl, if_neg h0, if_neg h31]
  rfl

/-- R125: a busy core with counter 31 publishes. -/
theorem step_core_last (hbusy : s.busy = true) (h31 : s.rc = 31) : step s = .next s.driven.publish := by
  simp [step_core hcore (.inl hreset), hrst, hbusy, h31, exec, execPipeLast]

end Running

/-- What a core edge that goes on can do: one of the five operations of R57 other than PIPE_BADSTATE. -/
theorem step_core_cases (h : step s = .next t) :
    (s.driven.pipeIn.rst = true ∧ t = s.driven.resetCore) ∨
    (s.coreReset = true ∧ s.driven.pipeIn.rst = false ∧
      ((s.busy = false ∧ s.driven.pipeIn.start = true ∧
          t = s.driven.acceptRequest s.driven.pipeIn.keyHigh s.driven.pipeIn.keyLow s.driven.pipeIn.plaintext) ∨
        (s.busy = false ∧ s.driven.pipeIn.start = false ∧ t = s.driven) ∨
        (s.busy = true ∧ s.rc ≠ 0 ∧ s.rc ≠ 31 ∧ t = s.driven.advanceRound s.rc) ∨
        (s.busy = true ∧ s.rc = 31 ∧ t = s.driven.publish))) := by
  cases hrst : s.driven.pipeIn.rst with
  | true =>
    rw [step_core_reset hcore hrst] at h
    cases h
    exact .inl ⟨rfl, rfl⟩
  | false =>
    refine .inr ?_
    cases hreset : s.coreReset with
    | false => rw [step_core_unreset hcore hreset hrst] at h; cases h
    | true =>
      refine ⟨rfl, rfl, ?_⟩
      cases hbusy : s.busy with
      | false =>
        cases hstart : s.driven.pipeIn.start with
        | true =>
          rw [step_core_load hcore hreset hrst hbusy hstart] at h
          cases h
          exact .inl ⟨rfl, rfl, rfl⟩
        | false =>
          rw [step_core_idle hcore hreset hrst hbusy hstart] at h
          cases h
          exact .inr (.inl ⟨rfl, rfl, rfl⟩)
      | true =>
        by_cases h0 : s.rc = 0
        · rw [step_core_badstate hcore hreset hrst hbusy h0] at h; cases h
        · by_cases h31 : s.rc = 31
          · rw [step_core_last hcore hreset hrst hbusy h31] at h
            cases h
            exact .inr (.inr (.inr ⟨rfl, h31, rfl⟩))
          · rw [step_core_round hcore hreset hrst hbusy h0 h31] at h
            cases h
            exact .inr (.inr (.inl ⟨rfl, h0, h31, rfl⟩))

end CoreEdge

/-! ## Steps of anything but the core -/

/-- Taking the next line leaves the core's registers as they are. -/
theorem sameCore_driven (s : State) : s.SameCore s.driven := by
  simp [State.SameCore]

/-- An instruction that is not one of the core's cycle operations leaves the core's registers as they are. -/
theorem exec_sameCore {s t : State} {i : Instr} (hfmt : i.format ≠ .pipeCw) (h : exec i s = .next t) :
    s.SameCore t := by
  cases i
  case pipeReset | pipeBadstate | pipeLast | pipeRound | pipeLoad | pipeIdle => exact absurd rfl hfmt
  all_goals
    cases h
    exact ⟨rfl, rfl, rfl, rfl, rfl, rfl, rfl⟩

/-- At a line that is no core edge no cycle operation of the core is selected. -/
theorem format_ne_pipeCw_of_not_core {s : State} (hother : s.nextLine.clocksCore = false) {i : Instr}
    (hdec : decode (s.driven.selection s.nextLine) = .instr i) : i.format ≠ .pipeCw := by
  cases hline : s.nextLine with
  | core p => simp [hline, Line.clocksCore] at hother
  | bus rst ws => simp [hline, Line.clocksCore] at hother
  | sched p =>
    rw [hline] at hdec
    simp [show i.format = .ksCw from format_of_decode _ i hdec]
  | eval j =>
    rw [hline] at hdec
    obtain ⟨-, hfmt | hfmt⟩ := decode_named hdec <;> simp [hfmt]

/-- R150: a step that is no core edge leaves the core's registers as they are. -/
theorem step_sameCore {s t : State} (hother : s.nextLine.clocksCore = false) (h : step s = .next t) :
    s.SameCore t := by
  obtain ⟨i, hdec, hexec, -⟩ := step_next s t h
  have hsame := exec_sameCore (format_ne_pipeCw_of_not_core hother hdec) hexec
  simpa [State.SameCore] using hsame

/-! # Proofs: INV (R26) -/

/-- INV speaks of the core's registers only. -/
theorem inv_of_sameCore {s t : State} (hsame : s.SameCore t) (hinv : s.Inv) : t.Inv := by
  obtain ⟨hbusy, -, hrc, hstate, -, hkey, hreset⟩ := hsame
  simpa only [State.Inv, hbusy, hrc, hstate, hkey, hreset] using hinv

/-- A state in which the core is idle with its counter at 0 satisfies INV. -/
theorem inv_of_idle {s : State} (hbusy : s.busy = false) (hrc : s.rc = 0) : s.Inv := by
  simp [State.Inv, hbusy, hrc]

/-- PIPE_RESET establishes INV at every state. -/
theorem inv_resetCore (s : State) : s.resetCore.Inv :=
  inv_of_idle rfl rfl

/-- PIPE_LOAD establishes INV at every state. -/
theorem inv_acceptRequest (s : State) (kh : Block) (kl : KeyLow) (pt : Block) : (s.acceptRequest kh kl pt).Inv := by
  simp [State.Inv]

/-- PIPE_LAST establishes INV at every state. -/
theorem inv_publish (s : State) : s.publish.Inv :=
  inv_of_idle rfl rfl

/-- R124: a counter below 31 does not wrap. -/
theorem counter_succ_toNat {rc : Counter} (h31 : rc ≠ 31) : (rc + 1).toNat = rc.toNat + 1 := by
  bv_omega

/-- PIPE_ROUND keeps INV of a busy core whose counter is not 31. -/
theorem inv_advanceRound {s : State} (hinv : s.Inv) (hbusy : s.busy = true) (h31 : s.rc ≠ 31) :
    (s.advanceRound s.rc).Inv := by
  intro hreset
  obtain ⟨-, hcounter, hheld⟩ := hinv hreset
  obtain ⟨-, hle⟩ := hcounter hbusy
  obtain ⟨hstate, hkey⟩ := hheld hbusy
  have hsucc := counter_succ_toNat h31
  have hlt := (s.rc + 1).isLt
  refine ⟨by simp [hbusy], fun _ => ?_, by simp [hstate, hkey]⟩
  rw [State.advanceRound_rc]
  omega

/-- Every step keeps INV. -/
theorem step_inv {s t : State} (hinv : s.Inv) (h : step s = .next t) : t.Inv := by
  have hdriven : s.driven.Inv := inv_of_sameCore (sameCore_driven s) hinv
  cases hcore : s.nextLine.clocksCore with
  | false => exact inv_of_sameCore (step_sameCore hcore h) hinv
  | true =>
    obtain ⟨-, rfl⟩ | ⟨-, -, ⟨-, -, rfl⟩ | ⟨-, -, rfl⟩ | ⟨hbusy, -, h31, rfl⟩ | ⟨-, -, rfl⟩⟩ :=
      step_core_cases hcore h
    · exact inv_resetCore _
    · exact inv_acceptRequest _ _ _ _
    · exact hdriven
    · have hround := inv_advanceRound hdriven (by simpa using hbusy) (by simpa using h31)
      simpa using hround
    · exact inv_publish _

/-- In INV the control state of PIPE_BADSTATE does not occur. -/
theorem rc_ne_zero_of_inv {s : State} (hinv : s.Inv) (hreset : s.coreReset = true) (hbusy : s.busy = true) :
    s.rc ≠ 0 := by
  obtain ⟨-, hcounter, -⟩ := hinv hreset
  obtain ⟨hpos, -⟩ := hcounter hbusy
  intro hrc
  simp [hrc] at hpos

/-- Settles O46: INV is kept by each of the core's operations and by every step that leaves the core alone. -/
theorem stepKeepsInv : Obligations.StepKeepsInv := by
  refine ⟨fun _ _ => step_inv, fun s t hcore hrst h => ?_, ?_⟩
  · rw [step_core_reset hcore hrst] at h
    cases h
    exact ⟨rfl, inv_resetCore _⟩
  · rintro s hinv hreset ⟨hbusy, hrc⟩
    exact rc_ne_zero_of_inv hinv hreset hbusy hrc

/-! # Proofs: an encryption under way (R27) -/

/-- Round key `i` is the high part of KR_i (R99, R100). -/
theorem generateRoundKeys_getElem (key : Key) {i : Nat} (hi : i < 32) :
    (generateRoundKeys key)[i] = highOf (keyRegister key i) := by
  cases i with
  | zero => rfl
  | succ i =>
    have hentry := roundKeysFrom_getElem? key 0 31 i (by omega)
    simpa [generateRoundKeys, List.getElem_eq_iff, Nat.add_comm] using hentry

/-- The round loop with the generated keys, unfolded by one round: the round key is taken from KR_i. -/
theorem stateAfterRounds_generateRoundKeys_succ (pt : Block) (key : Key) {i : Nat} (hi : i < 32) :
    stateAfterRounds pt (generateRoundKeys key) (i + 1) =
      roundFn (stateAfterRounds pt (generateRoundKeys key) i) (highOf (keyRegister key i)) := by
  rw [stateAfterRounds_succ _ _ _ hi, generateRoundKeys_getElem key hi]

/-- R27 speaks of the core's registers only. -/
theorem encrypting_of_sameCore {s t : State} (hsame : s.SameCore t) {pt : Block} {key : Key} {n : Nat}
    (henc : s.Encrypting pt key n) : t.Encrypting pt key n := by
  obtain ⟨hbusy, hdone, hrc, hstate, -, hkey, hreset⟩ := hsame
  simpa only [State.Encrypting, hbusy, hdone, hrc, hstate, hkey, hreset] using henc

/-- PIPE_LOAD of a core that has been reset establishes R27 at n = 1. -/
theorem encrypting_acceptRequest {s : State} (hreset : s.coreReset = true) (kh : Block) (kl : KeyLow) (pt : Block) :
    (s.acceptRequest kh kl pt).Encrypting pt (masterKey kh kl) 1 :=
  ⟨by decide, by decide, hreset, rfl, rfl, rfl, rfl, rfl⟩

/-- PIPE_ROUND takes R27 from n to n + 1. -/
theorem encrypting_advanceRound {s : State} {pt : Block} {key : Key} {n : Nat} (henc : s.Encrypting pt key n)
    (hn : n ≤ 30) : (s.advanceRound s.rc).Encrypting pt key (n + 1) := by
  obtain ⟨hpos, -, hreset, hbusy, hdone, hrc, hkey, hstate⟩ := henc
  obtain ⟨i, rfl⟩ : ∃ i, n = i + 1 := ⟨n - 1, by omega⟩
  simp only [Nat.add_sub_cancel] at hkey hstate
  have hcounter : s.rc + 1 = BitVec.ofNat 5 (i + 1 + 1) := by
    rw [hrc]
    exact (BitVec.ofNat_add (i + 1) 1).symm
  have hkey' : (s.advanceRound s.rc).keyReg = ⟨keyRegister key (i + 1), true⟩ := by
    simp [Reg.map, hkey, hrc]
  have hstate' : s.rnd = ⟨stateAfterRounds pt (generateRoundKeys key) (i + 1), true⟩ := by
    have hround := stateAfterRounds_generateRoundKeys_succ pt key (show i < 32 by omega)
    have hvalue := State.rnd_value s
    have hheld := State.rnd_held s
    rw [hstate, hkey] at hvalue hheld
    rw [hround, ← hvalue]
    exact congrArg (Reg.mk _) hheld
  exact ⟨by omega, by omega, hreset, hbusy, hdone, hcounter, hkey', hstate'⟩

/-- An edge that accepts a request starts an encryption of what stands on the ports, and leaves `ct_reg` alone. -/
theorem step_aboutToLoad {s : State} (hload : s.AboutToLoad) :
    ∃ t, step s = .next t ∧ t.Encrypting s.driven.pipeIn.plaintext s.driven.keyOnPorts 1 ∧ t.ctReg = s.ctReg := by
  obtain ⟨hreset, hbusy, hcore, hrst, hstart⟩ := hload
  exact ⟨_, step_core_load hcore hreset hrst hbusy hstart,
    encrypting_acceptRequest (by simpa using hreset) _ _ _, by simp⟩

/-- A core edge without reset takes an encryption at n < 31 one round on, and leaves `ct_reg` alone. -/
theorem step_encrypting {s : State} {pt : Block} {key : Key} {n : Nat} (henc : s.Encrypting pt key n) (hn : n ≤ 30)
    (hcore : s.nextLine.clocksCore = true) (hrst : s.driven.pipeIn.rst = false) :
    ∃ t, step s = .next t ∧ t.Encrypting pt key (n + 1) ∧ t.ctReg = s.ctReg := by
  have hnext := encrypting_advanceRound (encrypting_of_sameCore (sameCore_driven s) henc) hn
  obtain ⟨hpos, -, hreset, hbusy, -, hrc, -, -⟩ := henc
  have h0 : s.rc ≠ 0 := by bv_omega
  have h31 : s.rc ≠ 31 := by bv_omega
  refine ⟨_, step_core_round hcore hreset hrst hbusy h0 h31, ?_, by simp⟩
  simpa using hnext

/-- Settles O49: PIPE_LOAD establishes R27 at n = 1, PIPE_ROUND takes it from n to n + 1, and every other step leaves
the core's registers alone. -/
theorem encryptionAdvancesRoundByRound : Obligations.EncryptionAdvancesRoundByRound := by
  refine ⟨fun _ => step_aboutToLoad, fun _ _ _ _ => step_encrypting, fun s t pt key n henc hother h => ?_⟩
  have hsame := step_sameCore hother h
  have hct : t.ctReg = s.ctReg := by
    obtain ⟨-, -, -, -, hct, -, -⟩ := hsame
    exact hct
  exact ⟨encrypting_of_sameCore hsame henc, hct⟩

/-! # Proofs: the harness words on the ports (R31 to R33) -/

/-- R42: the first word of a pair stands in bits 63..32. -/
theorem wordPair_getLsbD_high (w0 w1 : HarnessWord) (i : Nat) :
    (wordPair w0 w1).getLsbD (32 + i) = w0.getLsbD i :=
  BitVec.getLsbD_append.trans (by simp)

/-- R42: the second word of a pair stands in bits 31..0. -/
theorem wordPair_getLsbD_low (w0 w1 : HarnessWord) {i : Nat} (hi : i < 32) :
    (wordPair w0 w1).getLsbD i = w1.getLsbD i :=
  BitVec.getLsbD_append.trans (by simp [hi])

/-- Settles O55: each port is a word, a pair of words or the low half of a word; KEY2 reaches the ports only through its
low half. -/
theorem harnessWordsDriveThePorts : Obligations.HarnessWordsDriveThePorts := by
  refine fun h rst => ⟨?start, fun i hi => ⟨?_, ?_, ?_, ?_⟩, fun i hi => ?keyLow, fun w hw => ?ignored⟩
  case start => simp [Harness.ports]
  case keyLow => simp [Harness.ports, hi]
  case ignored => simp [Harness.ports, hw]
  · exact wordPair_getLsbD_high _ _ i
  · exact wordPair_getLsbD_low _ _ hi
  · exact wordPair_getLsbD_high _ _ i
  · exact wordPair_getLsbD_low _ _ hi

end Sys2Proof.Machine

/-! # Proofs: the end of an encryption (R45, R125, R143)

PROOFS. Without a reset the core leaves `busy` only by publishing, so that what it shows then is a whole ciphertext. -/

namespace Sys2Proof.Machine

/-- R125: what the last edge publishes: the marker says whether the cipher state and the key were both held. -/
theorem State.fin_eq (s : State) (rc : Counter) :
    s.fin rc = ⟨roundFn s.stateReg.value (highOf s.keyReg.value) ^^^ highOf (ksUpdate s.keyReg.value rc),
      s.stateReg.held && s.keyReg.held⟩ := by
  rw [← State.fin_value, ← State.fin_held]

/-- A step at which `busy` falls without a reset is PIPE_LAST: no line of another unit clears `busy`, and of the core's
operations only PIPE_RESET and PIPE_LAST do. -/
theorem step_busy_falls {s t : State} (h : step s = .next t) (hbusy : s.busy = true) (hidle : t.busy = false)
    (hrst : s.driven.pipeIn.rst = false) : s.rc = 31 ∧ t = s.driven.publish := by
  cases hcore : s.nextLine.clocksCore with
  | false =>
    obtain ⟨hsame, -⟩ := step_sameCore hcore h
    simp [hsame, hbusy] at hidle
  | true =>
    obtain ⟨hreset, -⟩ | ⟨-, -, ⟨hnot, -, -⟩ | ⟨hnot, -, -⟩ | ⟨-, -, -, rfl⟩ | ⟨-, h31, hpublish⟩⟩ :=
      step_core_cases hcore h
    · simp [hrst] at hreset
    · simp [hbusy] at hnot
    · simp [hbusy] at hnot
    · simp [hbusy] at hidle
    · exact ⟨h31, hpublish⟩

/-- Settles O44: the step is PIPE_LAST, which writes `done` and all of `ct_reg` from the registers before the edge. -/
theorem busyFallsOnlyWithAWholeCiphertext : Obligations.BusyFallsOnlyWithAWholeCiphertext := by
  intro s t h hbusy hidle hrst
  obtain ⟨h31, rfl⟩ := step_busy_falls h hbusy hidle hrst
  refine ⟨h31, State.publish_done _, ?_⟩
  rw [State.publish_ctReg, State.fin_eq, State.driven_stateReg, State.driven_keyReg]
  rfl

end Sys2Proof.Machine

/-! # Proofs: the control words and the two decode tables (R56 to R59)

PROOFS. The fields of a control word, what a table's first matching row says of the word, and the tables written out
as the chain of their masks. -/

namespace Sys2Proof

/-! ## Fields of the control words -/

/-- Three flags put together, the first one highest. -/
theorem flags_getLsbD : ∀ a b c : Bool,
    (BitVec.ofBool a ++ BitVec.ofBool b ++ BitVec.ofBool c).getLsbD 2 = a ∧
    (BitVec.ofBool a ++ BitVec.ofBool b ++ BitVec.ofBool c).getLsbD 1 = b ∧
    (BitVec.ofBool a ++ BitVec.ofBool b ++ BitVec.ofBool c).getLsbD 0 = c := by
  decide

/-- R58: the three bits of `kcw` are the ports. -/
theorem ksControlWord_ports (rst load advance : Bool) :
    (ksControlWord rst load advance).getLsbD 2 = rst ∧ (ksControlWord rst load advance).getLsbD 1 = load ∧
    (ksControlWord rst load advance).getLsbD 0 = advance :=
  flags_getLsbD rst load advance

/-- R56: a bit of `cw` is a bit of the counter or, above it, of the three flags. -/
theorem pipeControlWord_getLsbD (rst start busy : Bool) (rc : Counter) (i : Nat) :
    (pipeControlWord rst start busy rc).getLsbD i =
      if i < 5 then rc.getLsbD i
      else (BitVec.ofBool rst ++ BitVec.ofBool start ++ BitVec.ofBool busy).getLsbD (i - 5) :=
  BitVec.getLsbD_append

/-- R56: the bits 7, 6 and 5 of `cw` are the flags. -/
theorem pipeControlWord_flags (rst start busy : Bool) (rc : Counter) :
    (pipeControlWord rst start busy rc).getLsbD 7 = rst ∧ (pipeControlWord rst start busy rc).getLsbD 6 = start ∧
    (pipeControlWord rst start busy rc).getLsbD 5 = busy := by
  simp only [pipeControlWord_getLsbD]
  exact flags_getLsbD rst start busy

/-- R56: the four fields are the whole of `cw`. -/
theorem pipeControlWord_fields (cw : PipeCw) :
    pipeControlWord (cw.getLsbD 7) (cw.getLsbD 6) (cw.getLsbD 5) (cw.extractLsb' 0 5) = cw := by
  obtain ⟨hrst, hstart, hbusy⟩ :=
    pipeControlWord_flags (cw.getLsbD 7) (cw.getLsbD 6) (cw.getLsbD 5) (cw.extractLsb' 0 5)
  refine BitVec.eq_of_getLsbD_eq fun i hi => ?_
  by_cases hcounter : i < 5
  · simp [pipeControlWord_getLsbD, hcounter]
  · obtain rfl | rfl | rfl : i = 5 ∨ i = 6 ∨ i = 7 := by omega
    · exact hbusy
    · exact hstart
    · exact hrst

/-! ## The first matching row -/

/-- An operation is selected only by a row of its own that matches. -/
theorem selects_of_firstMatch {w : Nat} {op : Type} {table : List (DecodeRow w op)} {cw : BitVec w} {o : op}
    (h : firstMatch table cw = some o) : ∃ r ∈ table, r.operation = o ∧ r.selects cw = true := by
  induction table with
  | nil => cases h
  | cons r rest ih =>
    rw [firstMatch] at h
    split at h
    next hsel => exact ⟨r, List.mem_cons_self, Option.some.inj h, hsel⟩
    next =>
      obtain ⟨r', hmem, hr'⟩ := ih h
      exact ⟨r', List.mem_cons_of_mem _ hmem, hr'⟩

/-- R57: every control word of the core selects a row. -/
theorem firstMatch_pipeTable_ne_none (cw : PipeCw) : firstMatch pipeTable cw ≠ none := by
  rw [← pipeControlWord_fields cw, firstMatch_pipeControlWord]
  exact Option.some_ne_none _

/-- R57's table as the chain of its masks. The last row needs no test, for some row matches. -/
theorem firstMatch_pipeTable (cw : PipeCw) :
    firstMatch pipeTable cw = some
      (if cw &&& 0x80 = 0x80 then .reset
       else if cw &&& 0xBF = 0x20 then .badstate
       else if cw &&& 0xBF = 0x3F then .last
       else if cw &&& 0xA0 = 0x20 then .round
       else if cw &&& 0xE0 = 0x40 then .load
       else .idle) := by
  have hsome := firstMatch_pipeTable_ne_none cw
  simp only [pipeTable, firstMatch, DecodeRow.selects, beq_iff_eq] at hsome ⊢
  split_ifs at hsome ⊢
  case neg => exact absurd rfl hsome
  all_goals rfl

/-- R59's table as the chain of its masks. -/
theorem firstMatch_ksTable : ∀ kcw : KsCw,
    firstMatch ksTable kcw = some
      (if kcw &&& 0b100 = 0b100 then .reset
       else if kcw &&& 0b110 = 0b010 then .load
       else if kcw &&& 0b111 = 0b001 then .advance
       else .hold) := by
  decide

/-- R57: PIPE_IDLE has one row. -/
theorem pipeTable_idle_row : ∀ r ∈ pipeTable, r.operation = .idle → r = ⟨.idle, 0x00, 0xE0⟩ := by
  decide

/-- R57: PIPE_IDLE is selected only where its own row matches. -/
theorem mask_of_pipe_idle {cw : PipeCw} (h : firstMatch pipeTable cw = some .idle) : cw &&& 0xE0 = 0x00 := by
  obtain ⟨r, hmem, hop, hsel⟩ := selects_of_firstMatch h
  cases pipeTable_idle_row r hmem hop
  exact eq_of_beq hsel

/-- R59: KS_HOLD is selected by the word 0 only. -/
theorem eq_zero_of_ks_hold : ∀ {kcw : KsCw}, firstMatch ksTable kcw = some .hold → kcw = 0 := by
  decide

/-- R57: PIPE_LAST is selected at counter 31 only. -/
theorem counter_of_pipe_last {rst start busy : Bool} {rc : Counter}
    (h : firstMatch pipeTable (pipeControlWord rst start busy rc) = some .last) : rc = 31 := by
  rw [firstMatch_pipeControlWord] at h
  by_contra h31
  rw [if_neg h31] at h
  split_ifs at h <;> cases h

/-! ## From the operation to the instruction -/

/-- The instruction of a core operation: the counter field is PIPE_ROUND's operand, the data inputs are PIPE_LOAD's. -/
def PipeOp.toInstr (op : PipeOp) (rc : Counter) (kh : Block) (kl : KeyLow) (pt : Block) : Instr :=
  match op with
  | .reset => .pipeReset
  | .badstate => .pipeBadstate
  | .last => .pipeLast
  | .round => .pipeRound rc
  | .load => .pipeLoad kh kl pt
  | .idle => .pipeIdle

/-- The instruction of an operation of the standalone scheduler. -/
def KsOp.toInstr (op : KsOp) (kh : Block) (kl : KeyLow) (rc : Counter) : Instr :=
  match op with
  | .reset => .ksReset
  | .load => .ksLoad kh kl
  | .advance => .ksAdvance rc
  | .hold => .ksHold

/-- A control word of the core decodes to the instruction of the operation that the table gives. -/
theorem decode_pipe {cw : PipeCw} {op : PipeOp} (h : firstMatch pipeTable cw = some op) (kh : Block) (kl : KeyLow)
    (pt : Block) : decode (.pipe cw kh kl pt) = .instr (op.toInstr (cw.extractLsb' 0 5) kh kl pt) := by
  rw [decode, decodePipe, h]
  cases op <;> rfl

/-- A control word of the scheduler decodes to the instruction of the operation that the table gives. -/
theorem decode_ks {kcw : KsCw} {op : KsOp} (h : firstMatch ksTable kcw = some op) (kh : Block) (kl : KeyLow)
    (rc : Counter) : decode (.ks kcw kh kl rc) = .instr (op.toInstr kh kl rc) := by
  rw [decode, decodeKs, h]
  cases op <;> rfl

/-- PIPE_IDLE is decoded only where the table selects it. -/
theorem firstMatch_of_decode_idle {cw : PipeCw} {kh : Block} {kl : KeyLow} {pt : Block}
    (h : decode (.pipe cw kh kl pt) = .instr .pipeIdle) : firstMatch pipeTable cw = some .idle := by
  obtain ⟨op, hop⟩ := Option.ne_none_iff_exists'.mp (firstMatch_pipeTable_ne_none cw)
  rw [decode_pipe hop] at h
  cases op
  case idle => exact hop
  all_goals cases h

/-- KS_HOLD is decoded only where the table selects it. -/
theorem firstMatch_of_decode_hold {kcw : KsCw} {kh : Block} {kl : KeyLow} {rc : Counter}
    (h : decode (.ks kcw kh kl rc) = .instr .ksHold) : firstMatch ksTable kcw = some .hold := by
  obtain ⟨op, hop⟩ : ∃ op, firstMatch ksTable kcw = some op := ⟨_, firstMatch_ksTable kcw⟩
  rw [decode_ks hop] at h
  cases op
  case hold => exact hop
  all_goals cases h

/-- Settles O3: the mask form is the table row by row; the condition form is decoding of the word made of `cw`'s own
four fields; PIPE_IDLE is decoded only where its row matches. -/
theorem pipeDecodeIsFirstMatchOfTheTable : Obligations.PipeDecodeIsFirstMatchOfTheTable := by
  refine fun cw kh kl pt => ⟨?masks, ?conditions, fun h => mask_of_pipe_idle (firstMatch_of_decode_idle h)⟩
  case masks =>
    rw [decode_pipe (firstMatch_pipeTable cw)]
    split_ifs <;> rfl
  case conditions =>
    have hdec := decode_pipeControlWord (cw.getLsbD 7) (cw.getLsbD 6) (cw.getLsbD 5) (cw.extractLsb' 0 5) kh kl pt
    rwa [pipeControlWord_fields] at hdec

/-- Settles O4: the mask form is the table row by row; KS_HOLD is decoded from the word 0 only. -/
theorem ksDecodeIsFirstMatchOfTheTable : Obligations.KsDecodeIsFirstMatchOfTheTable := by
  refine fun kcw kh kl rc => ⟨?_, fun h => eq_zero_of_ks_hold (firstMatch_of_decode_hold h)⟩
  rw [decode_ks (firstMatch_ksTable kcw)]
  split_ifs <;> rfl

end Sys2Proof

/-! # Proofs: what drives the control words, and the key register (R56, R58, R60, R64)

PROOFS. The selections at the edges of the two units, and the key registers of both schedulers. -/

namespace Sys2Proof.Machine

/-- R58: the selection at an edge of the standalone scheduler. -/
theorem selection_sched {s : State} {p : KsPorts} (h : s.nextLine = .sched p) :
    s.driven.selection s.nextLine = .ks (ksControlWord p.rst p.load p.advance) p.keyHigh p.keyLow p.rc := by
  rw [State.driven_sched s p h, h]
  rfl

/-- Settles O1: the control word of the selection has the ports and the registers as its fields. -/
theorem pipeControlWordIsPortsAndRegisters : Obligations.PipeControlWordIsPortsAndRegisters := by
  intro s hcore
  obtain ⟨hrst, hstart, hbusy⟩ := pipeControlWord_flags s.driven.pipeIn.rst s.driven.pipeIn.start s.busy s.rc
  exact ⟨s.driven_busy, s.driven_rc, _, selection_core s hcore, hrst, hstart, hbusy, pipeControlWord_counter ..⟩

/-- Settles O2: the control word of the selection has the scheduler's ports as its bits. -/
theorem ksControlWordIsPorts : Obligations.KsControlWordIsPorts :=
  fun s p rest hstim => ⟨_, selection_sched (s.nextLine_cons (.sched p) rest hstim), ksControlWord_ports _ _ _⟩

/-- R60: an operation of the core that goes on leaves in the embedded `key_reg` what R59 selects for the control word
that the core drives; at PIPE_LAST the counter is 31. -/
theorem exec_toInstr_keyReg {s t : State} {op : PipeOp} {rc : Counter} {kh : Block} {kl : KeyLow} {pt : Block}
    (hlast : op = .last → rc = 31) (h : exec (op.toInstr rc kh kl pt) s = .next t) :
    ∃ (kop : KsOp) (free : Key), firstMatch ksTable (embeddedControl op) = some kop ∧
      t.keyReg = keyRegAfter kop kh kl rc free s.keyReg := by
  cases op with
  | reset => cases h; exact ⟨.reset, _, rfl, State.resetCore_keyReg s⟩
  | badstate => cases h
  | last => cases h; cases hlast rfl; exact ⟨.advance, 0, rfl, rfl⟩
  | round => cases h; exact ⟨.advance, 0, rfl, rfl⟩
  | load => cases h; exact ⟨.load, 0, rfl, rfl⟩
  | idle => cases h; exact ⟨.hold, 0, rfl, rfl⟩

/-- Settles O34: the instruction at the edge is that of the operation which drives the scheduler, with the key ports and
`rc` as its operands. -/
theorem embeddedSchedulerFollowsThePipeline : Obligations.EmbeddedSchedulerFollowsThePipeline := by
  refine ⟨by decide, by decide, by decide, by decide, by decide, by decide, ?_⟩
  intro s t op i hcore hop hdec hexec
  rw [selection_core s hcore, decode_pipe hop, pipeControlWord_counter] at hdec
  cases hdec
  have hkey := exec_toInstr_keyReg (fun hlast => counter_of_pipe_last (hlast ▸ hop)) hexec
  rwa [State.driven_keyReg] at hkey

/-- R93: the counter 0 mixes nothing in. -/
theorem mixRc_zero (k : Key) : mixRc k 0 = k := by
  simp [mixRc]

/-- R64: with the counter 0 an update is the rotation and the S-box step. -/
theorem ksUpdate_zero (k : Key) : ksUpdate k 0 = subTop (rotl61 k) :=
  mixRc_zero _

/-- R97: an advance writes the updated value into the standalone scheduler's register, with its marker kept. -/
theorem exec_ksAdvance (rc : Counter) (s : State) :
    exec (.ksAdvance rc) s = .next
      { s with schedKeyReg := ⟨ksUpdate s.schedKeyReg.value rc, s.schedKeyReg.held⟩ } :=
  rfl

/-- Settles O31: R97's formula, and its value at the counter 0. -/
theorem ksAdvanceAppliesOneUpdate : Obligations.KsAdvanceAppliesOneUpdate :=
  ⟨exec_ksAdvance, fun s => by rw [exec_ksAdvance, ksUpdate_zero]⟩

end Sys2Proof.Machine

/-! # Proofs: the substitution (R70 to R74)

PROOFS. The S-box and its inverse over the 16 nibbles, a block as its 16 nibbles, and S-box layer and inverse lane by
lane. -/

namespace Sys2Proof.Machine

/-! ## The S-box -/

/-- R70, R71: the table is read from the string C56B90AD3EF84712, entry 0 first. -/
theorem sbox4_eq_extractLsb' : ∀ x : Nibble,
    sbox4 x = BitVec.extractLsb' (4 * (15 - x.toNat)) 4 0xC56B90AD3EF84712#64 := by
  decide

/-- R70: no nibble is its own substitute. -/
theorem sbox4_ne_self : ∀ x : Nibble, sbox4 x ≠ x := by
  decide

/-- The inverse S-box, by R74's table. -/
def inverseSbox4 (y : Nibble) : Nibble :=
  (#v[0x5#4, 0xE, 0xF, 0x8, 0xC, 0x1, 0x2, 0xD, 0xB, 0x4, 0x6, 0x3, 0x0, 0x7, 0x9, 0xA]).get y.toFin

/-- R74: R74's table undoes the S-box. -/
@[simp] theorem inverseSbox4_sbox4 : ∀ x : Nibble, inverseSbox4 (sbox4 x) = x := by
  decide

/-- R74: the S-box undoes R74's table. -/
@[simp] theorem sbox4_inverseSbox4 : ∀ y : Nibble, sbox4 (inverseSbox4 y) = y := by
  decide

/-- R70: the S-box is a bijection. -/
theorem sbox4_bijective : Function.Bijective sbox4 :=
  Function.bijective_iff_has_inverse.mpr ⟨inverseSbox4, inverseSbox4_sbox4, sbox4_inverseSbox4⟩

/-- Settles O8: the S-box is the string's digits, and R74's table is its inverse. -/
theorem sbox4LooksUpTheTable : Obligations.Sbox4LooksUpTheTable := by
  refine ⟨fun x s => ?_, sbox4_ne_self, sbox4_bijective⟩
  rw [← sbox4_eq_extractLsb']
  rfl

/-! ## A block as its 16 nibbles -/

/-- A bit of a nibble of a block (R43). -/
theorem nibbleAt_getLsbD (s : Block) (j : Nat) {i : Nat} (hi : i < 4) :
    (nibbleAt s j).getLsbD i = s.getLsbD (4 * j + i) := by
  simp [nibbleAt, hi]

/-- R43: two blocks with the same 16 nibbles are the same block. -/
theorem eq_of_nibbleAt_eq {a b : Block} (h : ∀ j < 16, nibbleAt a j = nibbleAt b j) : a = b := by
  refine BitVec.eq_of_getLsbD_eq fun k hk => ?_
  have hbit := congrArg (·.getLsbD (k % 4)) (h (k / 4) (by omega))
  simpa only [nibbleAt_getLsbD _ _ (Nat.mod_lt k (by decide : 0 < 4)), Nat.div_add_mod] using hbit

/-- The block whose nibble `j` is `f j`, built as R72 builds its result: each lane is written once. -/
def blockOfNibbles (f : Nat → Nibble) : Block :=
  (List.range Config.sboxLanes).foldl (fun out j => out ||| ((f j).zeroExtend 64 <<< (4 * j))) 0

/-- A nibble written into lane `l` is seen in lane `j` only if that is the same lane. -/
theorem getLsbD_lane (x : Nibble) (l : Nat) {j i : Nat} (hj : j < 16) (hi : i < 4) :
    (x.zeroExtend 64 <<< (4 * l)).getLsbD (4 * j + i) = (decide (l = j) && x.getLsbD i) := by
  have hbit : (x.zeroExtend 64 <<< (4 * l)).getLsbD (4 * j + i) =
      (!decide (4 * j + i < 4 * l) && x.getLsbD (4 * j + i - 4 * l)) := by
    simp [show 4 * j + i < 64 by omega]
  rw [hbit]
  obtain hlt | rfl | hgt := Nat.lt_trichotomy l j
  · simp [BitVec.getLsbD_of_ge x (4 * j + i - 4 * l) (by omega), hlt.ne]
  · simp
  · simp [show 4 * j + i < 4 * l by omega, hgt.ne']

/-- Each lane of the built block is the nibble that was written there. -/
theorem nibbleAt_blockOfNibbles (f : Nat → Nibble) {j : Nat} (hj : j < 16) : nibbleAt (blockOfNibbles f) j = f j := by
  refine BitVec.eq_of_getLsbD_eq fun i hi => ?_
  rw [nibbleAt_getLsbD _ _ hi, blockOfNibbles, getLsbD_foldl_or, Bool.eq_iff_iff]
  simp only [getLsbD_lane _ _ hj hi]
  simp [Config.sboxLanes, hj]

/-! ## The S-box layer and its inverse -/

/-- SBOX_LAYER is the block of the substituted nibbles. -/
theorem sboxLayer_eq_blockOfNibbles (s : Block) : sboxLayer s = blockOfNibbles fun j => sbox4 (nibbleAt s j) :=
  rfl

/-- R72, R73: lane `j` of the result is the substitute of lane `j`. -/
theorem nibbleAt_sboxLayer (s : Block) {j : Nat} (hj : j < 16) : nibbleAt (sboxLayer s) j = sbox4 (nibbleAt s j) := by
  rw [sboxLayer_eq_blockOfNibbles, nibbleAt_blockOfNibbles _ hj]

/-- R74: the inverse layer, lane by lane. -/
def inverseSboxLayer (s : Block) : Block :=
  blockOfNibbles fun j => inverseSbox4 (nibbleAt s j)

/-- R74: lane `j` of the inverse layer's result comes from lane `j` by R74's table. -/
theorem nibbleAt_inverseSboxLayer (s : Block) {j : Nat} (hj : j < 16) :
    nibbleAt (inverseSboxLayer s) j = inverseSbox4 (nibbleAt s j) :=
  nibbleAt_blockOfNibbles _ hj

/-- R74: the inverse layer undoes SBOX_LAYER, as it does in each lane. -/
theorem inverseSboxLayer_sboxLayer (s : Block) : inverseSboxLayer (sboxLayer s) = s :=
  eq_of_nibbleAt_eq fun j hj => by
    rw [nibbleAt_inverseSboxLayer _ hj, nibbleAt_sboxLayer _ hj, inverseSbox4_sbox4]

/-- R74: SBOX_LAYER undoes the inverse layer, as it does in each lane. -/
theorem sboxLayer_inverseSboxLayer (s : Block) : sboxLayer (inverseSboxLayer s) = s :=
  eq_of_nibbleAt_eq fun j hj => by
    rw [nibbleAt_sboxLayer _ hj, nibbleAt_inverseSboxLayer _ hj, sbox4_inverseSbox4]

/-- R74: SBOX_LAYER is a bijection. -/
theorem sboxLayer_bijective : Function.Bijective sboxLayer :=
  Function.bijective_iff_has_inverse.mpr
    ⟨inverseSboxLayer, inverseSboxLayer_sboxLayer, sboxLayer_inverseSboxLayer⟩

/-- Settles O9: SBOX_LAYER's result, read lane by lane. -/
theorem sboxLayerSubstitutesEachNibble : Obligations.SboxLayerSubstitutesEachNibble :=
  fun dIn _ => ⟨sboxLayer dIn, rfl, fun _ hj => nibbleAt_sboxLayer dIn hj⟩

/-- Settles O10: the inverse layer, and its table in each lane. -/
theorem sboxLayerIsABijection : Obligations.SboxLayerIsABijection := by
  refine ⟨sboxLayer_bijective, fun s j hj => ?_⟩
  change inverseSbox4 (nibbleAt (sboxLayer s) j) = nibbleAt s j
  rw [nibbleAt_sboxLayer s hj, inverseSbox4_sbox4]

end Sys2Proof.Machine

/-! # Proofs: the permutation (R80 to R83)

PROOFS. The permutation table in closed form and its inverse, where the two forms of P_LAYER move each bit, and that
they are one rewiring. -/

namespace Sys2Proof.Machine

/-! ## The permutation table -/

/-- R81: P rotates the three base-4 digits of a bit number, the lowest to the top. -/
theorem permIndex_eq {j : Nat} (hj : j < 64) : permIndex j = 16 * (j % 4) + j / 4 := by
  unfold permIndex
  split <;> omega

/-- The inverse table `P^-1`, as R81 gives it. -/
def inversePermIndex (k : Nat) : Nat :=
  if k = 63 then 63 else 4 * k % 63

/-- R81: `P^-1` rotates the three base-4 digits back, the highest to the bottom. -/
theorem inversePermIndex_eq {k : Nat} (hk : k < 64) : inversePermIndex k = 4 * (k % 16) + k / 16 := by
  unfold inversePermIndex
  split <;> omega

theorem permIndex_lt {j : Nat} (hj : j < 64) : permIndex j < 64 := by
  rw [permIndex_eq hj]
  omega

theorem inversePermIndex_lt {k : Nat} (hk : k < 64) : inversePermIndex k < 64 := by
  rw [inversePermIndex_eq hk]
  omega

theorem permIndex_inversePermIndex {k : Nat} (hk : k < 64) : permIndex (inversePermIndex k) = k := by
  rw [permIndex_eq (inversePermIndex_lt hk), inversePermIndex_eq hk]
  omega

theorem inversePermIndex_permIndex {j : Nat} (hj : j < 64) : inversePermIndex (permIndex j) = j := by
  rw [inversePermIndex_eq (permIndex_lt hj), permIndex_eq hj]
  omega

/-- No two bits have the same destination. -/
theorem permIndex_inj {i j : Nat} (hi : i < 64) (hj : j < 64) (h : permIndex i = permIndex j) : i = j := by
  rw [← inversePermIndex_permIndex hi, h, inversePermIndex_permIndex hj]

/-- R81: P commutes with bit reversal. -/
theorem permIndex_reverse {j : Nat} (hj : j < 64) : 63 - permIndex (63 - j) = permIndex j := by
  rw [permIndex_eq (by omega : 63 - j < 64), permIndex_eq hj]
  omega

/-- R81: the fixed points are the bit numbers whose three base-4 digits are equal. -/
theorem permIndex_eq_self_iff {j : Nat} (hj : j < 64) : permIndex j = j ↔ j = 0 ∨ j = 21 ∨ j = 42 ∨ j = 63 := by
  rw [permIndex_eq hj]
  omega

/-! ## Where each bit goes -/

/-- A loop that puts bit `src i` of `s` at position `dst i`: a position that only step `j` writes holds bit `src j`. -/
theorem getLsbD_foldl_bitAt (s : Block) (src dst : Nat → Nat) {j : Nat} (hj : j < 64) (hdst : dst j < 64)
    (honly : ∀ i < 64, dst i = dst j → i = j) :
    ((List.range 64).foldl (fun out i => out ||| bitAt (s.getLsbD (src i)) (dst i)) 0).getLsbD (dst j) =
      s.getLsbD (src j) := by
  rw [getLsbD_foldl_or, Bool.eq_iff_iff]
  simp only [getLsbD_bitAt _ _ _ hdst, BitVec.ofNat_eq_ofNat, BitVec.getLsbD_zero, Bool.false_or, List.any_eq_true,
    List.mem_range, Bool.and_eq_true, decide_eq_true_eq]
  constructor
  · rintro ⟨i, hi, hbit, heq⟩
    rwa [← honly i hi heq]
  · exact fun hbit => ⟨j, hj, hbit, rfl⟩

/-- R82, LSB-0 form: bit `j` moves to bit `P(j)`. -/
theorem getLsbD_pLayer_permIndex (s : Block) {j : Nat} (hj : j < 64) :
    (pLayer s).getLsbD (permIndex j) = s.getLsbD j :=
  getLsbD_foldl_bitAt s id permIndex hj (permIndex_lt hj) fun _ hi => permIndex_inj hi hj

/-- R82, the document's form: bit `63 - i` moves to bit `63 - P[i]`. -/
theorem getLsbD_pLayerDocument (s : Block) {i : Nat} (hi : i < 64) :
    (pLayerDocument s).getLsbD (63 - permIndex i) = s.getLsbD (63 - i) := by
  refine getLsbD_foldl_bitAt s (63 - ·) (63 - permIndex ·) hi (by omega) fun l hl heq => permIndex_inj hl hi ?_
  have := permIndex_lt hl
  have := permIndex_lt hi
  omega

/-- R83: bit `k` of the result is bit `P^-1(k)` of the operand. -/
theorem getLsbD_pLayer (s : Block) {k : Nat} (hk : k < 64) :
    (pLayer s).getLsbD k = s.getLsbD (inversePermIndex k) := by
  rw [← getLsbD_pLayer_permIndex s (inversePermIndex_lt hk), permIndex_inversePermIndex hk]

/-! ## One rewiring -/

/-- R81: the document's form moves bit `j` to `63 - P(63 - j)`, which is `P(j)`. -/
theorem pLayerDocument_eq_pLayer (s : Block) : pLayerDocument s = pLayer s := by
  refine BitVec.eq_of_getLsbD_eq fun k hk => ?_
  have hj := inversePermIndex_lt hk
  have hdocument := getLsbD_pLayerDocument s (i := 63 - inversePermIndex k) (by omega)
  rw [permIndex_reverse hj, permIndex_inversePermIndex hk] at hdocument
  rw [hdocument, getLsbD_pLayer s hk]
  congr 1
  omega

/-- R83: no bit of the operand is lost, and the blocks are finitely many. -/
theorem pLayer_bijective : Function.Bijective pLayer :=
  Finite.injective_iff_bijective.mp fun a b hab => BitVec.eq_of_getLsbD_eq fun j hj => by
    rw [← getLsbD_pLayer_permIndex a hj, hab, getLsbD_pLayer_permIndex b hj]

/-- Settles O11: P_LAYER's result, whose bits move as both of R82's forms say. -/
theorem pLayerMovesEachBit : Obligations.PLayerMovesEachBit :=
  fun dIn _ => ⟨pLayer dIn, rfl, fun _ hj => getLsbD_pLayer_permIndex dIn hj,
    fun _ hi => pLayerDocument_eq_pLayer dIn ▸ getLsbD_pLayerDocument dIn hi⟩

/-- Settles O12: the two forms agree by bit reversal, and the facts about P follow from its closed form. -/
theorem pLayerDocumentFormAgrees : Obligations.PLayerDocumentFormAgrees :=
  ⟨pLayerDocument_eq_pLayer, fun _ => permIndex_reverse, fun _ => permIndex_eq, fun _ => permIndex_inversePermIndex,
    fun _ => permIndex_eq_self_iff⟩

/-- Settles O13: result bit `k` has the source `P^-1(k)`, and bit `j` is the source of result bit `P(j)`. -/
theorem pLayerIsARewiring : Obligations.PLayerIsARewiring :=
  ⟨pLayer_bijective, fun s _ => getLsbD_pLayer s,
    fun j hj => ⟨permIndex j, permIndex_lt hj, inversePermIndex_permIndex hj⟩⟩

end Sys2Proof.Machine

/-! # Proofs: the key schedule's functions (R90 to R94, R99 to R101)

PROOFS. Where each of the three steps of KS_UPDATE takes each bit, that each step is a bijection, and the 32 round keys
as the high parts of KR_0 .. KR_31. -/

namespace Sys2Proof.Machine

/-! ## ROTL61 -/

/-- R90: bit `j` of the result is the bit 61 places below it, which is 19 places above it modulo 80. -/
theorem getLsbD_rotl61 (k : Key) {j : Nat} (hj : j < 80) : (rotl61 k).getLsbD j = k.getLsbD ((j + 19) % 80) := by
  rw [rotl61, BitVec.getLsbD_append, BitVec.getLsbD_extractLsb', BitVec.getLsbD_extractLsb']
  split
  next hlow =>
    rw [show (j + 19) % 80 = 19 + j by omega]
    simp [hlow]
  next hhigh =>
    rw [show (j + 19) % 80 = 0 + (j - 61) by omega]
    simp [show j - 61 < 19 by omega]

/-- R90: bit `j` moves to bit `(j + 61) mod 80`. -/
theorem getLsbD_rotl61_target (k : Key) {j : Nat} (hj : j < 80) :
    (rotl61 k).getLsbD ((j + 61) % 80) = k.getLsbD j := by
  rw [getLsbD_rotl61 k (Nat.mod_lt _ (by decide))]
  congr 1
  omega

/-- R90: ROTL61 is the library's rotation. -/
theorem rotl61_eq_rotateLeft (k : Key) : rotl61 k = k.rotateLeft 61 := by
  refine BitVec.eq_of_getLsbD_eq fun j hj => ?_
  rw [getLsbD_rotl61 k hj, BitVec.getLsbD_rotateLeft_of_le (by decide)]
  by_cases hwrap : j < 61
  · rw [show (j + 19) % 80 = 80 - 61 + j by omega]
    simp [hwrap]
  · rw [show (j + 19) % 80 = j - 61 by omega]
    simp [hwrap, hj]

/-- R91: the new `low` is old bits 34..19. -/
theorem low_rotl61 (k : Key) : (rotl61 k).extractLsb' 0 16 = k.extractLsb' 19 16 := by
  refine BitVec.eq_of_getLsbD_eq fun j hj => ?_
  have hbit := getLsbD_rotl61 k (j := j) (by omega)
  rw [show (j + 19) % 80 = 19 + j by omega] at hbit
  simp [hj, hbit]

/-- R91: the new `high` is old bits 18..0, then 79..35. -/
theorem high_rotl61 (k : Key) :
    (rotl61 k).extractLsb' 16 64 = (k.extractLsb' 0 19 ++ k.extractLsb' 35 45 : BitVec 64) := by
  refine BitVec.eq_of_getLsbD_eq fun j hj => ?_
  rw [BitVec.getLsbD_append, BitVec.getLsbD_extractLsb', getLsbD_rotl61 k (by omega)]
  by_cases hlow : j < 45
  · rw [show (16 + j + 19) % 80 = 35 + j by omega]
    simp [hlow, hj]
  · rw [show (16 + j + 19) % 80 = j - 45 by omega]
    simp [hlow, hj, show j - 45 < 19 by omega]

/-- R90: no bit is lost, and the keys are finitely many. -/
theorem rotl61_bijective : Function.Bijective rotl61 :=
  Finite.injective_iff_bijective.mp fun a b hab => BitVec.eq_of_getLsbD_eq fun j hj => by
    rw [← getLsbD_rotl61_target a hj, hab, getLsbD_rotl61_target b hj]

/-- Settles O14: ROTL61's result, bit by bit, as the library's rotation and in the split form. -/
theorem rotl61RotatesLeft : Obligations.Rotl61RotatesLeft :=
  fun k _ => ⟨rotl61 k, rfl, rotl61_eq_rotateLeft k, fun _ hj => getLsbD_rotl61_target k hj, low_rotl61 k,
    high_rotl61 k⟩

/-! ## SUBTOP -/

/-- R92: the top nibble of the result is the substitute of the top nibble. -/
theorem top_subTop (k : Key) : (subTop k).extractLsb' 76 4 = sbox4 (k.extractLsb' 76 4) :=
  BitVec.extractLsb'_append_eq_left

/-- R92: the other 76 bits are kept. -/
theorem getLsbD_subTop (k : Key) {j : Nat} (hj : j < 76) : (subTop k).getLsbD j = k.getLsbD j := by
  rw [subTop, BitVec.getLsbD_append, if_pos hj]
  simp [hj]

/-- Two keys with the same top nibble and the same 76 bits below it are the same key. -/
theorem eq_of_top_of_getLsbD {a b : Key} (htop : a.extractLsb' 76 4 = b.extractLsb' 76 4)
    (hlow : ∀ j < 76, a.getLsbD j = b.getLsbD j) : a = b := by
  refine BitVec.eq_of_getLsbD_eq fun j hj => ?_
  by_cases hj' : j < 76
  · exact hlow j hj'
  · have hbit := congrArg (·.getLsbD (j - 76)) htop
    simpa [show j - 76 < 4 by omega, show 76 + (j - 76) = j by omega] using hbit

/-- R92: SUBTOP is a bijection, for the S-box is one and the other bits are kept. -/
theorem subTop_bijective : Function.Bijective subTop :=
  Finite.injective_iff_bijective.mp fun a b hab =>
    eq_of_top_of_getLsbD (sbox4_bijective.injective (by rw [← top_subTop, hab, top_subTop])) fun j hj => by
      rw [← getLsbD_subTop a hj, hab, getLsbD_subTop b hj]

/-- Settles O15: SUBTOP's result, its top nibble and the bits below it. -/
theorem subtopSubstitutesTheTopNibble : Obligations.SubtopSubstitutesTheTopNibble :=
  fun k _ => ⟨subTop k, rfl, top_subTop k, fun _ hj => getLsbD_subTop k hj⟩

/-! ## MIXRC -/

/-- R93: the counter is XORed into bits 19..15. -/
theorem getLsbD_mixRc (k : Key) (r : Counter) {j : Nat} (hj : j < 80) :
    (mixRc k r).getLsbD j = (k.getLsbD j ^^ (decide (15 ≤ j ∧ j ≤ 19) && r.getLsbD (j - 15))) := by
  have hcounter : (r.zeroExtend 80 <<< Config.counterPosition).getLsbD j =
      (!decide (j < 15) && r.getLsbD (j - 15)) := by
    simp [Config.counterPosition, hj]
  rw [mixRc, BitVec.getLsbD_xor, hcounter]
  obtain hbelow | hfield | habove : j < 15 ∨ (15 ≤ j ∧ j ≤ 19) ∨ 19 < j := by omega
  · simp [hbelow, show ¬ 15 ≤ j by omega]
  · simp [hfield]
  · simp [BitVec.getLsbD_of_ge r (j - 15) (by omega)]

/-- R93: the part of the mixed-in counter that reaches `high`. -/
theorem high_shiftedCounter : ∀ r : Counter,
    (r.zeroExtend 80 <<< Config.counterPosition).extractLsb' 16 64 = (r >>> 1).zeroExtend 64 := by
  decide

/-- R93: the part of the mixed-in counter that reaches `low`. -/
theorem low_shiftedCounter : ∀ r : Counter,
    (r.zeroExtend 80 <<< Config.counterPosition).extractLsb' 0 16 = (r &&& 1).zeroExtend 16 <<< 15 := by
  decide

/-- R93: the top nibble is kept. -/
theorem top_mixRc (k : Key) (r : Counter) : (mixRc k r).extractLsb' 76 4 = k.extractLsb' 76 4 := by
  refine BitVec.eq_of_getLsbD_eq fun j hj => ?_
  simp [hj, getLsbD_mixRc k r (show 76 + j < 80 by omega), show ¬ 76 + j ≤ 19 by omega]

/-- R93: mixing the counter in twice gives the key back. -/
theorem mixRc_involutive (r : Counter) : Function.Involutive fun k => mixRc k r := by
  intro k
  simp [mixRc]

/-- Settles O16: MIXRC's result, bit by bit and in the split form. -/
theorem mixrcXorsTheCounterIntoBits19To15 : Obligations.MixrcXorsTheCounterIntoBits19To15 := by
  refine fun k r s => ⟨mixRc k r, rfl, fun _ hj => getLsbD_mixRc k r hj, ?high, ?low⟩
  case high => rw [mixRc, BitVec.extractLsb'_xor, high_shiftedCounter]
  case low => rw [mixRc, BitVec.extractLsb'_xor, low_shiftedCounter]

/-! ## KS_UPDATE -/

/-- R94: the substitution and the XOR touch different bits, so that they commute. -/
theorem subTop_mixRc (k : Key) (r : Counter) : subTop (mixRc k r) = mixRc (subTop k) r := by
  refine eq_of_top_of_getLsbD ?_ fun j hj => ?_
  · rw [top_subTop, top_mixRc, top_mixRc, top_subTop]
  · rw [getLsbD_subTop _ hj, getLsbD_mixRc _ _ (by omega), getLsbD_mixRc _ _ (by omega), getLsbD_subTop _ hj]

/-- R94: the top nibble of the result is the substitute of old bits 18..15. -/
theorem top_ksUpdate (k : Key) (r : Counter) : (ksUpdate k r).extractLsb' 76 4 = sbox4 (k.extractLsb' 15 4) := by
  have hrotated : (rotl61 k).extractLsb' 76 4 = k.extractLsb' 15 4 := by
    refine BitVec.eq_of_getLsbD_eq fun j hj => ?_
    simp [hj, getLsbD_rotl61 k (show 76 + j < 80 by omega), show (76 + j + 19) % 80 = 15 + j by omega]
  rw [ksUpdate, top_mixRc, top_subTop, hrotated]

/-- R94: each bit below the top nibble is rotated, and a counter bit is XORed into bits 19..15. -/
theorem getLsbD_ksUpdate (k : Key) (r : Counter) {j : Nat} (hj : j < 76) :
    (ksUpdate k r).getLsbD j =
      (k.getLsbD ((j + 19) % 80) ^^ (decide (15 ≤ j ∧ j ≤ 19) && r.getLsbD (j - 15))) := by
  rw [ksUpdate, getLsbD_mixRc _ _ (by omega), getLsbD_subTop _ hj, getLsbD_rotl61 _ (by omega)]

/-- R94: for a fixed counter each of the three steps is a bijection, and so is the update. -/
theorem ksUpdate_bijective (r : Counter) : Function.Bijective fun k => ksUpdate k r :=
  (mixRc_involutive r).bijective.comp (subTop_bijective.comp rotl61_bijective)

/-- Settles O17: KS_UPDATE's result by its bits, and its three steps as bijections of which the last two commute. -/
theorem ksUpdateRotatesSubstitutesAndXors : Obligations.KsUpdateRotatesSubstitutesAndXors :=
  ⟨fun k r _ => ⟨ksUpdate k r, rfl, rfl, top_ksUpdate k r, fun _ hj => getLsbD_ksUpdate k r hj⟩, ksUpdate_bijective,
    fun k r => subTop_mixRc (rotl61 k) r, ksUpdate_zero⟩

/-! ## The round keys -/

/-- Settles O18: the register values are KR_0 .. KR_31, and each round key is the high part of its own. -/
theorem roundKeysAreTheHighPartsOfTheKeyRegister : Obligations.RoundKeysAreTheHighPartsOfTheKeyRegister :=
  fun key _ => ⟨generateRoundKeys key, keyRegister key, rfl, keyRegister_zero key, fun i _ => keyRegister_succ key i,
    fun _ hi => generateRoundKeys_getElem key hi⟩

/-- R101: while `key_reg = KR_i`, `round_key` is K_i. -/
theorem roundKeyOf_keyRegister (key : Key) {i : Nat} (hi : i < 32) :
    roundKeyOf ⟨keyRegister key i, true⟩ = ⟨(generateRoundKeys key)[i], true⟩ := by
  rw [generateRoundKeys_getElem key hi]
  rfl

/-- R101: while `key_reg = KR_i` and `rc = i + 1`, `next_round_key` is K_(i+1). -/
theorem nextRoundKeyOf_keyRegister (key : Key) {i : Nat} (hi : i + 1 < 32) :
    nextRoundKeyOf ⟨keyRegister key i, true⟩ (BitVec.ofNat 5 (i + 1)) = ⟨(generateRoundKeys key)[i + 1], true⟩ := by
  rw [generateRoundKeys_getElem key hi]
  rfl

/-- Settles O33: the two outputs as functions of `key_reg`, and their values on the key-register sequence. -/
theorem schedulerOutputsFollowKeyReg : Obligations.SchedulerOutputsFollowKeyReg := by
  refine ⟨fun s => ⟨rfl, rfl⟩, fun key n h1 h31 => ?_⟩
  obtain ⟨i, rfl⟩ : ∃ i, n = i + 1 := ⟨n - 1, by omega⟩
  exact ⟨roundKeyOf_keyRegister key (by omega), nextRoundKeyOf_keyRegister key (by omega)⟩

end Sys2Proof.Machine

/-! # Proofs: the standalone key scheduler (R95, R96, R98, R102)

PROOFS. What an edge of the standalone scheduler does to its key register, as its three control inputs select, and the
key register after a trace of edges. -/

namespace Sys2Proof.Machine

/-! ## One edge -/

/-- The operation that the three control inputs of a scheduler select, told from the inputs (R59). -/
def ksOpOf (rst load advance : Bool) : KsOp :=
  if rst then .reset else if load then .load else if advance then .advance else .hold

/-- R59: that operation is the first matching row. -/
theorem firstMatch_ksControlWord : ∀ rst load advance : Bool,
    firstMatch ksTable (ksControlWord rst load advance) = some (ksOpOf rst load advance) := by
  decide

/-- Without `rst` the operation is not KS_RESET. -/
theorem ksOpOf_ne_reset : ∀ load advance : Bool, ksOpOf false load advance ≠ .reset := by
  decide

/-- R96 to R98: an operation other than KS_RESET replaces the key register and nothing else. -/
theorem exec_ksOp {op : KsOp} (hop : op ≠ .reset) (kh : Block) (kl : KeyLow) (rc : Counter) (s : State) :
    exec (op.toInstr kh kl rc) s = .next (s.withSchedKeyReg (keyRegAfter op kh kl rc 0 s.schedKeyReg)) := by
  cases op with
  | reset => exact absurd rfl hop
  | load | advance | hold => rfl

/-- Settles O29: the register is ⊥ with a free value, and `rst` selects KS_RESET whatever `load` and `advance` are. -/
theorem ksResetLeavesBottom : Obligations.KsResetLeavesBottom :=
  ⟨fun _ => ⟨_, _, rfl⟩, fun load advance kh kl rc => decode_ks (firstMatch_ksControlWord true load advance) kh kl rc⟩

/-- R17, R65: the high part of a master key is `key_high`. -/
theorem highOf_masterKey (kh : Block) (kl : KeyLow) : highOf (masterKey kh kl) = kh :=
  BitVec.extractLsb'_append_eq_left

/-- Settles O30: the register is the key, whose high part is `key_high`, and `load` selects KS_LOAD whatever `advance`
is. -/
theorem ksLoadLoadsTheKey : Obligations.KsLoadLoadsTheKey :=
  ⟨fun kh kl => exec_ksOp (op := .load) (by decide) kh kl 0,
    fun kh kl => congrArg (Reg.mk · true) (highOf_masterKey kh kl),
    fun advance kh kl rc => decode_ks (firstMatch_ksControlWord false true advance) kh kl rc⟩

/-- Settles O32: KS_HOLD replaces the key register by itself. -/
theorem ksHoldWritesNothing : Obligations.KsHoldWritesNothing :=
  exec_ksOp (op := .hold) (by decide) 0 0 0

/-- An edge with `rst = 0` of a scheduler that has been reset leaves in the key register what its inputs select. -/
theorem step_sched {s : State} {p : KsPorts} (hline : s.nextLine = .sched p) (hreset : s.schedReset = true)
    (hrst : p.rst = false) :
    step s = .next (s.driven.withSchedKeyReg
      (keyRegAfter (ksOpOf false p.load p.advance) p.keyHigh p.keyLow p.rc 0 s.schedKeyReg)) := by
  have hdec := decode_ks (firstMatch_ksControlWord p.rst p.load p.advance) p.keyHigh p.keyLow p.rc
  have hedge : s.driven.edgeUnreset s.nextLine = false := by
    simp [hline, State.edgeUnreset, hreset]
  rw [← selection_sched hline, hrst] at hdec
  rw [step_eq_exec hedge hdec, exec_ksOp (ksOpOf_ne_reset _ _), State.driven_schedKeyReg]

/-! ## A trace of edges -/

/-- What the first edge of a trace can be: an advance with the next counter value, or a hold (R102). -/
theorem ksTrace_cons {m n : Nat} {p : KsPorts} {rest : List KsPorts} (h : ksTrace m (p :: rest) = some n) :
    p.rst = false ∧
      ((ksOpOf false p.load p.advance = .advance ∧ m + 1 ≤ 31 ∧ p.rc = BitVec.ofNat 5 (m + 1) ∧
          ksTrace (m + 1) rest = some n) ∨
        (ksOpOf false p.load p.advance = .hold ∧ ksTrace m rest = some n)) := by
  rw [ksTrace] at h
  split_ifs at h with hctl hadv hnext
  all_goals
    obtain ⟨hrst, hload⟩ : p.rst = false ∧ p.load = false := by simpa using hctl
  · obtain ⟨hm, hrc⟩ := hnext
    exact ⟨hrst, .inl ⟨by simp [ksOpOf, hload, hadv], hm, hrc, h⟩⟩
  · exact ⟨hrst, .inr ⟨by simp [ksOpOf, hload, hadv], h⟩⟩

/-- R102: a trace that starts with `key_reg = KR_m` and reaches the counter `n` ends with `key_reg = KR_n`. -/
theorem run_ksTrace {key : Key} {more : List Line} {n : Nat} (edges : List KsPorts) {s : State} {m : Nat}
    (hreset : s.schedReset = true) (hstim : s.stimulus = edges.map .sched ++ more)
    (hkey : s.schedKeyReg = ⟨keyRegister key m, true⟩) (htrace : ksTrace m edges = some n) :
    ∃ t, run edges.length s = .next t ∧ t.schedKeyReg = ⟨keyRegister key n, true⟩ := by
  induction edges generalizing s m with
  | nil =>
    cases htrace
    exact ⟨s, run_zero s, hkey⟩
  | cons p rest ih =>
    obtain ⟨hrst, hcase⟩ := ksTrace_cons htrace
    have hstep := step_sched (s.nextLine_cons (.sched p) _ hstim) hreset hrst
    rw [List.length_cons, run_succ_next _ _ _ hstep]
    obtain ⟨hop, -, hrc, hrest⟩ | ⟨hop, hrest⟩ := hcase
    · refine ih (by simpa using hreset) (by simp [hstim]) ?_ hrest
      rw [State.withSchedKeyReg_schedKeyReg, hop, hkey, hrc]
      rfl
    · refine ih (by simpa using hreset) (by simp [hstim]) ?_ hrest
      rw [State.withSchedKeyReg_schedKeyReg, hop, hkey]
      rfl

/-- R102: a trace's counter does not pass 31. -/
theorem ksTrace_le {m n : Nat} (edges : List KsPorts) (hm : m ≤ 31) (h : ksTrace m edges = some n) : n ≤ 31 := by
  induction edges generalizing m with
  | nil => cases h; exact hm
  | cons p rest ih =>
    obtain ⟨-, ⟨-, hm', -, hrest⟩ | ⟨-, hrest⟩⟩ := ksTrace_cons h
    · exact ih hm' hrest
    · exact ih hm hrest

/-- Settles O54: KS_LOAD leaves KR_0, and the trace goes on from there. -/
theorem standaloneSchedulerProducesTheSchedule : Obligations.StandaloneSchedulerProducesTheSchedule := by
  intro s load edges more n hreset hstim hrst hload htrace
  have hstep := step_sched (s.nextLine_cons (.sched load) _ hstim) hreset hrst
  obtain ⟨t, hrun, hkey⟩ := run_ksTrace (key := load.keyHigh ++ load.keyLow) (more := more) edges
    (s := s.driven.withSchedKeyReg
      (keyRegAfter (ksOpOf false load.load load.advance) load.keyHigh load.keyLow load.rc 0 s.schedKeyReg))
    (by simpa using hreset) (by simp [hstim]) (by rw [hload]; rfl) htrace
  rw [← run_succ_next _ _ _ hstep, Nat.add_comm] at hrun
  have hn : n < 32 := Nat.lt_succ_of_le (ksTrace_le edges (by decide) htrace)
  refine ⟨t, hrun, hkey, ?_⟩
  rw [hkey, roundKeyOf_keyRegister _ hn]
  simp [hn]

end Sys2Proof.Machine

/-! # Proofs: the cipher engine's functions (R110, R111, R113)

PROOFS. The round as a function of one XOR, encryption as the round loop, and PRESENT80 with its known answers. -/

namespace Sys2Proof.Machine

/-- R110: a round depends only on the XOR of the cipher state and the round key. -/
theorem roundFn_congr {a b c d : Block} (h : a ^^^ b = c ^^^ d) : roundFn a b = roundFn c d :=
  congrArg (fun x => pLayer (sboxLayer x)) h

/-- Settles O20: R110's formula, in which the operands stand only in their XOR. -/
theorem roundFnIsXorSubstitutePermute : Obligations.RoundFnIsXorSubstitutePermute :=
  ⟨fun _ _ _ => rfl, fun _ _ _ _ => roundFn_congr⟩

/-- Settles O21: the states are those of the round loop, which takes the keys in order. -/
theorem encryptIs31RoundsAndAWhitening : Obligations.EncryptIs31RoundsAndAWhitening :=
  fun pt ks _ => ⟨stateAfterRounds pt ks, rfl, stateAfterRounds_zero pt ks,
    fun r hr => stateAfterRounds_succ pt ks r (by omega)⟩

/-- Settles O22: R113's formula, and the four answers computed from it. -/
theorem present80EncryptsUnderTheGeneratedKeys : Obligations.Present80EncryptsUnderTheGeneratedKeys :=
  ⟨fun _ _ _ => rfl, by decide +kernel, by decide +kernel, by decide +kernel, by decide +kernel⟩

/-! # Proofs: the core's cycle operations (R114, R120 to R125)

PROOFS. The wires of the datapath, and the state that each cycle operation leaves. -/

/-! ## The datapath -/

/-- R114: what the substitution stage takes. -/
theorem State.sboxIn_eq (s : State) :
    s.sboxIn = ⟨s.stateReg.value ^^^ highOf s.keyReg.value, s.stateReg.held && s.keyReg.held⟩ :=
  rfl

/-- R114: the permutation stage gives the round's result. -/
theorem State.rnd_eq (s : State) :
    s.rnd = ⟨roundFn s.stateReg.value (highOf s.keyReg.value), s.stateReg.held && s.keyReg.held⟩ := by
  rw [← State.rnd_value, ← State.rnd_held]

/-- Settles O35: each wire by its own equation. -/
theorem datapathComputesTheRound : Obligations.DatapathComputesTheRound := by
  refine fun s rc => ⟨s.sboxIn_eq, rfl, rfl, s.rnd_eq, ?fin⟩
  case fin =>
    rw [State.fin_eq, State.rnd_value]
    rfl

/-! ## The operations -/

/-- Settles O23: the free values stand in the registers that R120 leaves ⊥. -/
theorem pipeResetClearsControlAndLeavesDataBottom : Obligations.PipeResetClearsControlAndLeavesDataBottom :=
  fun _ => ⟨_, _, _, _, rfl⟩

/-- Settles O24: the operation gives its own state back. -/
theorem pipeIdleWritesNothing : Obligations.PipeIdleWritesNothing :=
  fun _ => rfl

/-- Settles O25: the state is the one that `acceptRequest` makes. -/
theorem pipeLoadSamplesTheRequest : Obligations.PipeLoadSamplesTheRequest :=
  fun _ _ _ _ => rfl

/-- PIPE_ROUND runs one round of the datapath. -/
theorem exec_pipeRound (rc : Counter) (s : State) : exec (.pipeRound rc) s = .next (s.advanceRound rc) :=
  rfl

/-- PIPE_LAST publishes what the datapath holds at counter 31. -/
theorem exec_pipeLast (s : State) : exec .pipeLast s = .next s.publish :=
  rfl

/-- Settles O26: the state takes the wire `rnd`, and a counter below 31 does not wrap. -/
theorem pipeRoundDoesOneRoundAndOneKeyUpdate : Obligations.PipeRoundDoesOneRoundAndOneKeyUpdate := by
  refine fun rc s _ h30 => ⟨?_, counter_succ_toNat (by bv_omega)⟩
  rw [exec_pipeRound, State.advanceRound, State.rnd_eq]
  rfl

/-- Settles O27: both data registers take the wire `fin` at counter 31. -/
theorem pipeLastWhitensAndPublishes : Obligations.PipeLastWhitensAndPublishes := by
  intro s
  rw [exec_pipeLast, State.publish, State.fin_eq]
  rfl

/-! # Proofs: the control state that does not occur (R62, R131)

PROOFS. PIPE_BADSTATE is the only instruction that faults, and a step decodes it only in the control state
`busy = 1, rc = 0`, which INV excludes. -/

/-- R131: no instruction but PIPE_BADSTATE faults. -/
theorem eq_pipeBadstate_of_exec_fault {i : Instr} {s : State} {f : Fault} (h : exec i s = .fault f) :
    i = .pipeBadstate := by
  cases i
  case pipeBadstate => rfl
  all_goals cases h

/-- R57: PIPE_BADSTATE is decoded only without a reset in the control state `busy = 1, rc = 0`. -/
theorem fields_of_decode_pipeBadstate {rst start busy : Bool} {rc : Counter} {kh : Block} {kl : KeyLow} {pt : Block}
    (h : decode (.pipe (pipeControlWord rst start busy rc) kh kl pt) = .instr .pipeBadstate) :
    rst = false ∧ busy = true ∧ rc = 0 := by
  rw [decode_pipeControlWord] at h
  split_ifs at h with hrst hbusy hrc <;> cases h
  exact ⟨by simpa using hrst, hbusy, hrc⟩

/-- A step that faulted ran an instruction that faults, at an edge that was not refused. -/
theorem step_fault {s : State} {f : Fault} (h : step s = .fault f) :
    ∃ i, decode (s.driven.selection s.nextLine) = .instr i ∧ exec i s.driven = .fault f ∧
      s.driven.edgeUnreset s.nextLine = false := by
  unfold step at h
  split at h
  next => cases h
  next hedge =>
    split at h
    next i hdec => exact ⟨i, hdec, h, by simpa using hedge⟩
    next => cases h

/-- R62: a step faults only in a core that has been reset and is in the control state `busy = 1, rc = 0`. -/
theorem badControl_of_step_fault {s : State} {f : Fault} (h : step s = .fault f) :
    s.coreReset = true ∧ s.busy = true ∧ s.rc = 0 := by
  obtain ⟨i, hdec, hexec, hedge⟩ := step_fault h
  obtain rfl := eq_pipeBadstate_of_exec_fault hexec
  cases hcore : s.nextLine.clocksCore with
  | false => exact absurd rfl (format_ne_pipeCw_of_not_core hcore hdec)
  | true =>
    rw [selection_core s hcore] at hdec
    obtain ⟨hrst, hbusy, hrc⟩ := fields_of_decode_pipeBadstate hdec
    rw [edgeUnreset_core s hcore, hrst] at hedge
    exact ⟨by simpa using hedge, hbusy, hrc⟩

/-- Settles O28: the state from which a step faults is the one that INV excludes. -/
theorem pipeBadstateFaultsAndIsUnreachable : Obligations.PipeBadstateFaultsAndIsUnreachable := by
  refine ⟨fun _ => rfl, fun s f hinv h => ?_⟩
  obtain ⟨hreset, hbusy, hrc⟩ := badControl_of_step_fault h
  exact rc_ne_zero_of_inv hinv hreset hbusy hrc

/-! # Proofs: the inputs of a busy core (R126)

PROOFS. The edge of a busy core, with the levels of its ports apart from everything else that it leaves. -/

section BusyCore

variable {s : State} {p : PipePorts} {ls : List Line} (hreset : s.coreReset = true) (hbusy : s.busy = true)
  (hrst : p.rst = false)
include hreset hbusy hrst

/-- R123, R126: PIPE_ROUND with any levels on the other ports: only the ports show them. -/
theorem step_core_round_ports (h0 : s.rc ≠ 0) (h31 : s.rc ≠ 31) :
    step { s with stimulus := .core p :: ls } =
      .next { State.advanceRound { s with stimulus := ls } s.rc with pipeIn := p } :=
  step_core_round (s := { s with stimulus := .core p :: ls }) rfl hreset hrst hbusy h0 h31

/-- R125, R126: PIPE_LAST with any levels on the other ports: only the ports show them. -/
theorem step_core_last_ports (h31 : s.rc = 31) :
    step { s with stimulus := .core p :: ls } =
      .next { State.publish { s with stimulus := ls } with pipeIn := p } :=
  step_core_last (s := { s with stimulus := .core p :: ls }) rfl hreset hrst hbusy h31

end BusyCore

/-- Settles O43: a busy core publishes at counter 31 and does a round at any other, whatever the other ports show. -/
theorem busyCoreIgnoresStartAndData : Obligations.BusyCoreIgnoresStartAndData := by
  intro s p q ls hreset hbusy h0 hp hq
  by_cases h31 : s.rc = 31
  · exact ⟨_, step_core_last_ports hreset hbusy hp h31, step_core_last_ports hreset hbusy hq h31⟩
  · exact ⟨_, step_core_round_ports hreset hbusy hp h0 h31, step_core_round_ports hreset hbusy hq h0 h31⟩

/-! # Proofs: a whole encryption (R127, R128)

PROOFS. That lines without a reset stay so from step to step, R27 along a run, and the ciphertext at its end. -/

/-! ## Lines without a reset -/

/-- No operation changes the levels on the core's ports or the waiting lines. -/
theorem exec_pipeIn_stimulus {s t : State} {i : Instr} (h : exec i s = .next t) :
    t.pipeIn = s.pipeIn ∧ t.stimulus = s.stimulus := by
  cases i
  case pipeBadstate => cases h
  all_goals
    cases h
    exact ⟨rfl, rfl⟩

/-- R66: a step takes the next line and leaves its levels on the core's ports. -/
theorem step_pipeIn_stimulus {s t : State} (h : step s = .next t) :
    t.pipeIn = s.driven.pipeIn ∧ t.stimulus = s.stimulus.tail := by
  obtain ⟨_, -, hexec, -⟩ := step_next s t h
  exact exec_pipeIn_stimulus hexec

/-- A line that runs the core is a core edge that drives `rst = 0`. -/
theorem coreEdge_of_runsCore {s : State} (h : s.nextLine.runsCore = true) :
    s.nextLine.clocksCore = true ∧ s.driven.pipeIn.rst = false := by
  cases hline : s.nextLine with
  | core p =>
    rw [State.driven_core s p hline]
    exact ⟨rfl, by simpa [hline, Line.runsCore] using h⟩
  | bus rst ws =>
    rw [State.driven_bus s rst ws hline]
    exact ⟨rfl, by simpa [hline, Line.runsCore, Harness.ports] using h⟩
  | sched p => simp [hline, Line.runsCore] at h
  | eval i => simp [hline, Line.runsCore] at h

/-- The next `n` steps are core edges with `rst = 0`: the lines that wait are, and so are the levels that stay on the
ports when there are fewer than `n` of them (R162). -/
def State.RunsFor (s : State) (n : Nat) : Prop :=
  s.pipeIn.rst = false ∧ s.NoResetFor n

/-- The first of the steps is a core edge with `rst = 0`. -/
theorem coreEdge_of_runsFor {s : State} {n : Nat} (h : s.RunsFor (n + 1)) :
    s.nextLine.clocksCore = true ∧ s.driven.pipeIn.rst = false := by
  obtain ⟨hrst, hlines⟩ := h
  refine coreEdge_of_runsCore ?_
  cases hstim : s.stimulus with
  | nil => simp [s.nextLine_nil hstim, Line.runsCore, hrst]
  | cons l ls =>
    rw [s.nextLine_cons l ls hstim]
    exact hlines l (by simp [hstim])

/-- The lines after the first have no reset either. -/
theorem noResetFor_of_tail {s t : State} {n : Nat} (h : s.NoResetFor (n + 1)) (htail : t.stimulus = s.stimulus.tail) :
    t.NoResetFor n := by
  intro l hl
  rw [htail] at hl
  refine h l ?_
  cases hstim : s.stimulus with
  | nil => simp [hstim] at hl
  | cons l' ls =>
    rw [hstim] at hl
    exact List.mem_cons_of_mem l' hl

/-- After the first of the steps the others are still to come. -/
theorem step_runsFor {s t : State} {n : Nat} (hrst : s.driven.pipeIn.rst = false) (hlines : s.NoResetFor (n + 1))
    (h : step s = .next t) : t.RunsFor n := by
  obtain ⟨hports, htail⟩ := step_pipeIn_stimulus h
  exact ⟨by rw [hports, hrst], noResetFor_of_tail hlines htail⟩

/-! ## The run -/

/-- R127, R27: `m` edges without a reset after PIPE_LOAD the encryption is at counter m + 1, `ct_reg` is as it was, and
the edges up to the 32nd are still to come. -/
theorem run_encrypting {s : State} (hload : s.AboutToLoad) (hlines : s.NoResetFor 32) {m : Nat} (hm : m ≤ 30) :
    ∃ t, run (m + 1) s = .next t ∧ t.Encrypting s.driven.pipeIn.plaintext s.driven.keyOnPorts (m + 1) ∧
      t.ctReg = s.ctReg ∧ t.RunsFor (31 - m) := by
  induction m with
  | zero =>
    obtain ⟨t, hstep, henc, hct⟩ := step_aboutToLoad hload
    obtain ⟨-, -, -, hrst, -⟩ := hload
    exact ⟨t, run_succ_next 0 s t hstep, henc, hct, step_runsFor hrst hlines hstep⟩
  | succ m ih =>
    obtain ⟨t, hrun, henc, hct, hruns⟩ := ih (by omega)
    rw [show 31 - m = 31 - (m + 1) + 1 by omega] at hruns
    obtain ⟨hcore, hrst⟩ := coreEdge_of_runsFor hruns
    obtain ⟨u, hstep, henc', hct'⟩ := step_encrypting henc hm hcore hrst
    obtain ⟨-, hlines'⟩ := hruns
    exact ⟨u, (run_snoc _ s t hrun).trans hstep, henc', hct'.trans hct, step_runsFor hrst hlines' hstep⟩

/-- R125, R113: at counter 31 of an encryption the datapath holds the ciphertext. -/
theorem fin_of_encrypting {s : State} {pt : Block} {key : Key} (henc : s.Encrypting pt key 31) :
    s.fin 31 = ⟨present80 pt key, true⟩ := by
  obtain ⟨-, -, -, -, -, -, hkey, hstate⟩ := henc
  have hround : stateAfterRounds pt (generateRoundKeys key) 31 =
      roundFn (stateAfterRounds pt (generateRoundKeys key) 30) (highOf (keyRegister key 30)) :=
    stateAfterRounds_generateRoundKeys_succ pt key (by decide)
  have hwhitening : (generateRoundKeys key)[31] = highOf (ksUpdate (keyRegister key 30) 31) :=
    generateRoundKeys_getElem key (by decide)
  rw [State.fin_eq, hstate, hkey, present80, encrypt, Config.numRounds, hround, hwhitening]
  rfl

/-- R128: 32 edges without a reset, the first of them PIPE_LOAD, leave an idle core that has published the ciphertext of
what PIPE_LOAD sampled. -/
theorem run_present80 {s : State} (hload : s.AboutToLoad) (hlines : s.NoResetFor 32) :
    ∃ t, run 32 s = .next t ∧ t.ctReg = ⟨present80 s.driven.pipeIn.plaintext s.driven.keyOnPorts, true⟩ ∧
      t.busy = false ∧ t.done = true ∧ t.rc = 0 := by
  obtain ⟨t, hrun, henc, -, hruns⟩ := run_encrypting hload hlines (m := 30) le_rfl
  obtain ⟨hcore, hrst⟩ := coreEdge_of_runsFor hruns
  have hfin := fin_of_encrypting (encrypting_of_sameCore (sameCore_driven t) henc)
  obtain ⟨-, -, hreset, hbusy, -, h31, -, -⟩ := henc
  have hlast := step_core_last hcore hreset hrst hbusy h31
  exact ⟨t.driven.publish, (run_snoc 31 s t hrun).trans hlast, hfin, rfl, rfl, rfl⟩

/-- Settles O50: R27 gives the control registers before the last edge, and the last edge publishes. -/
theorem latencyIs31EdgesAfterLoad : Obligations.LatencyIs31EdgesAfterLoad := by
  refine fun s hload hlines => ⟨fun m h1 h31 => ?_, ?_⟩
  · obtain ⟨i, rfl⟩ : ∃ i, m = i + 1 := ⟨m - 1, by omega⟩
    obtain ⟨t, hrun, henc, hct, -⟩ := run_encrypting hload hlines (m := i) (by omega)
    obtain ⟨-, -, -, hbusy, hdone, hrc, -, -⟩ := henc
    exact ⟨t, hrun, hbusy, hdone, hrc, hct⟩
  · obtain ⟨t, hrun, hct, hbusy, hdone, hrc⟩ := run_present80 hload hlines
    refine ⟨t, hrun, hbusy, hdone, hrc, (Reg.read_eq_some _ _).mpr ?_⟩
    rw [hct]
    exact ⟨rfl, rfl⟩

/-- Settles O51: what the 32 edges of an encryption publish. -/
theorem coreComputesPresent80 : Obligations.CoreComputesPresent80 := by
  intro s hload hlines
  obtain ⟨t, hrun, hct, hbusy, hdone, -⟩ := run_present80 hload hlines
  exact ⟨t, hrun, hct, hbusy, hdone⟩

end Sys2Proof.Machine

/-! # Proofs: decoding of what is encoded (R55, R57, R59, R61)

PROOFS. The word that encodes each operation selects the operation's own row, and what a control word selects is well
formed. -/

namespace Sys2Proof

/-- R61: an operation without a control word is selected by its name. -/
theorem decode_named_self {i : Instr} (hfmt : i.format = .comb ∨ i.format = .func) : decode (.named i) = .instr i := by
  rcases hfmt with hfmt | hfmt <;> simp [decode, hfmt]

/-- R55: a cycle operation is not selected by its name. -/
theorem decode_named_cycle {i : Instr} (hfmt : i.format = .pipeCw ∨ i.format = .ksCw) :
    decode (.named i) = .rejected .needsControlWord := by
  rcases hfmt with hfmt | hfmt <;> simp [decode, hfmt]

/-- R57, R63: PIPE_ROUND's field is well formed when it is neither PIPE_BADSTATE's 0 nor PIPE_LAST's 31. -/
theorem wellFormed_pipeRound_iff {rc : Counter} : (Instr.pipeRound rc).wellFormed = true ↔ rc ≠ 0 ∧ rc ≠ 31 := by
  simp only [Instr.wellFormed, Bool.and_eq_true, decide_eq_true_eq]
  constructor <;> intro <;> bv_omega

/-- R57: PIPE_ROUND's `match` with its field is the control word of a busy core at that counter. -/
theorem round_word_eq_pipeControlWord : ∀ rc : Counter, 0b001#3 ++ rc = pipeControlWord false false true rc := by
  decide

/-- R57: a well-formed PIPE_ROUND is decoded from its encoding, with its counter. -/
theorem decode_encode_pipeRound {rc : Counter} (hwf : (Instr.pipeRound rc).wellFormed = true) :
    decode (encode (.pipeRound rc)) = .instr (.pipeRound rc) := by
  obtain ⟨h0, h31⟩ := wellFormed_pipeRound_iff.mp hwf
  rw [encode, round_word_eq_pipeControlWord, decode_pipeControlWord, if_neg Bool.false_ne_true, if_pos rfl, if_neg h0,
    if_neg h31]

/-- Settles O5: the `match` of a row selects that row, PIPE_ROUND's with any well-formed field; what has no row is
decoded from its name. -/
theorem decodeOfEncodeIsTheInstruction : Obligations.DecodeOfEncodeIsTheInstruction := by
  intro i hwf
  cases i
  case pipeReset => exact decode_pipe (op := .reset) (by decide) 0 0 0
  case pipeBadstate => exact decode_pipe (op := .badstate) (by decide) 0 0 0
  case pipeLast => exact decode_pipe (op := .last) (by decide) 0 0 0
  case pipeRound rc => exact decode_encode_pipeRound hwf
  case pipeLoad kh kl pt => exact decode_pipe (op := .load) (by decide) kh kl pt
  case pipeIdle => exact decode_pipe (op := .idle) (by decide) 0 0 0
  case ksReset => exact decode_ks (op := .reset) (by decide) 0 0 0
  case ksLoad kh kl => exact decode_ks (op := .load) (by decide) kh kl 0
  case ksAdvance rc => exact decode_ks (op := .advance) (by decide) 0 0 rc
  case ksHold => exact decode_ks (op := .hold) (by decide) 0 0 0
  case sbox4 | sboxLayer | pLayer | ksRoundKey | ksNextRoundKey => exact decode_named_self (.inl rfl)
  case ksRotl61 | ksSubtop | ksMixrc | ksUpdate | generateRoundKeys | roundFn | encrypt | present80 =>
    exact decode_named_self (.inr rfl)

/-- R63: every instruction but PIPE_ROUND takes every value of its operands. -/
theorem wellFormed_of_ne_pipeRound {i : Instr} (hround : ∀ rc, i ≠ .pipeRound rc) : i.wellFormed = true := by
  cases i
  case pipeRound rc => exact absurd rfl (hround rc)
  all_goals rfl

/-- R57: PIPE_ROUND is selected only after the rows of the counters 0 and 31. -/
theorem wellFormed_of_decode_pipe {cw : PipeCw} {kh : Block} {kl : KeyLow} {pt : Block} {i : Instr}
    (h : decode (.pipe cw kh kl pt) = .instr i) : i.wellFormed = true := by
  rw [← pipeControlWord_fields cw, decode_pipeControlWord] at h
  split_ifs at h with _ _ h0 h31 <;> cases h
  case neg => exact wellFormed_pipeRound_iff.mpr ⟨h0, h31⟩
  all_goals rfl

/-- Settles O6: a name is decoded to itself, a control word to an instruction of its unit. -/
theorem decodedIsWellFormedAndOfItsFormat : Obligations.DecodedIsWellFormedAndOfItsFormat := by
  refine ⟨fun sel i h => ⟨?named, ?pipe, ?ks⟩, fun _ => decode_named_cycle⟩
  case named =>
    rintro j rfl
    exact decode_named h
  case pipe =>
    rintro cw kh kl pt rfl
    exact ⟨format_of_decode _ i h, wellFormed_of_decode_pipe h⟩
  case ks =>
    rintro kcw kh kl rc rfl
    have hfmt : i.format = .ksCw := format_of_decode _ i h
    exact ⟨hfmt, wellFormed_of_ne_pipeRound fun rc hround => by simp [hround, Instr.format] at hfmt⟩

/-- Settles O7: each of the closed words is run through the tables. -/
theorem writtenOutControlWordsDecode : Obligations.WrittenOutControlWordsDecode := by
  unfold Obligations.WrittenOutControlWordsDecode
  decide

/-- R57, R59, R61: every selection is decoded but the name of a cycle operation. -/
theorem exists_decode_eq_instr (sel : Selection)
    (hnamed : ∀ i, sel = .named i → i.format = .comb ∨ i.format = .func) : ∃ i, decode sel = .instr i := by
  cases sel with
  | pipe cw kh kl pt => exact ⟨_, decode_pipe (firstMatch_pipeTable cw) kh kl pt⟩
  | ks kcw kh kl rc => exact ⟨_, decode_ks (firstMatch_ksTable kcw) kh kl rc⟩
  | named i => exact ⟨i, decode_named_self (hnamed i rfl)⟩

end Sys2Proof

/-! # Proofs: what the schedule takes from the key (R28, R100)

PROOFS. The first two round keys, bit by bit, tell what of the key they depend on and that they differ. -/

namespace Sys2Proof.Machine

/-- R99: K_0 is `key_high`. -/
theorem roundKey_zero_masterKey (kh : Block) (kl : KeyLow) : (generateRoundKeys (masterKey kh kl))[0] = kh := by
  rw [generateRoundKeys_getElem _ (by decide), keyRegister_zero, highOf_masterKey]

/-- R99: K_1 is the high part of the first update. -/
theorem roundKey_one (key : Key) : (generateRoundKeys key)[1] = highOf (ksUpdate key 1) :=
  generateRoundKeys_getElem key (by decide)

/-- A bit of the high part of a key (R17). -/
theorem getLsbD_highOf (k : Key) {j : Nat} (hj : j < 64) : (highOf k).getLsbD j = k.getLsbD (16 + j) := by
  simp [highOf, hj]

/-- R65: the low 16 bits of a master key are `key_low`. -/
theorem getLsbD_masterKey_low (kh : Block) (kl : KeyLow) {j : Nat} (hj : j < 16) :
    (masterKey kh kl).getLsbD j = kl.getLsbD j :=
  BitVec.getLsbD_append.trans (if_pos hj)

/-- R94: the rotation brings the low 15 bits of a key to bits 75..61, below the S-box's nibble and above the counter's
field. -/
theorem getLsbD_ksUpdate_of_low (k : Key) (r : Counter) {j : Nat} (hj : j < 15) :
    (ksUpdate k r).getLsbD (61 + j) = k.getLsbD j := by
  rw [getLsbD_ksUpdate k r (by omega), show (61 + j + 19) % 80 = j by omega]
  simp [show ¬ 61 + j ≤ 19 by omega]

/-- R94: bit 15 of a key passes through the S-box to bit 76. -/
theorem getLsbD_ksUpdate_seventySix (k : Key) (r : Counter) :
    (ksUpdate k r).getLsbD 76 = (sbox4 (k.extractLsb' 15 4)).getLsbD 0 := by
  rw [← top_ksUpdate k r]
  simp

/-- A schedule's keys are not all identical when its first update changes the high part of the key. -/
theorem exists_roundKey_ne {key : Key} (h : highOf key ≠ highOf (ksUpdate key 1)) :
    ∃ i j : Fin 32, (generateRoundKeys key)[i] ≠ (generateRoundKeys key)[j] := by
  refine ⟨0, 1, ?_⟩
  change (generateRoundKeys key)[0] ≠ (generateRoundKeys key)[1]
  rwa [roundKey_one, generateRoundKeys_getElem _ (by decide), keyRegister_zero]

/-- Settles O19: K_0 is `key_high`, K_1 has the bits of `key_low` where the first update takes them, and the two differ
for both keys. -/
theorem roundKeysDependOnTheWholeKey : Obligations.RoundKeysDependOnTheWholeKey := by
  refine ⟨fun kh kl kl' => ?first, fun kh kl j hj => ?second, exists_roundKey_ne (by decide),
    exists_roundKey_ne (by decide)⟩
  case first => exact (roundKey_zero_masterKey kh kl).trans (roundKey_zero_masterKey kh kl').symm
  case second =>
    change (generateRoundKeys (masterKey kh kl))[1].getLsbD (45 + j) = _
    rw [roundKey_one, getLsbD_highOf _ (by omega), show 16 + (45 + j) = 61 + j by omega]
    split
    next h15 =>
      subst h15
      exact getLsbD_ksUpdate_seventySix _ 1
    next h15 => rw [getLsbD_ksUpdate_of_low _ _ (by omega), getLsbD_masterKey_low kh kl hj]

/-! # Proofs: what a step writes (R17 to R22, R150)

PROOFS. The writers of each register, and the frame of each unit's edges. -/

/-- R98: a hold leaves the key register as it is. -/
@[simp] theorem keyRegAfter_hold (kh : Block) (kl : KeyLow) (rc : Counter) (free : Key) (k : Reg 80) :
    keyRegAfter .hold kh kl rc free k = k :=
  rfl

/-- Settles O36: for each instruction that the step may have run, it is among the writers of every register that it
changes. -/
theorem registersChangeOnlyByTheirWriters : Obligations.RegistersChangeOnlyByTheirWriters := by
  intro s t h
  obtain ⟨i, hdec, hexec, -⟩ := step_next s t h
  refine ⟨i, hdec, ?_⟩
  cases i
  case pipeBadstate => cases hexec
  all_goals
    cases hexec
    simp

/-- Taking the next line leaves the standalone scheduler as it is. -/
theorem sameSched_driven (s : State) : s.SameSched s.driven := by
  simp [State.SameSched]

/-- An instruction that is not one of the standalone scheduler's cycle operations leaves the scheduler as it is. -/
theorem exec_sameSched {s t : State} {i : Instr} (hfmt : i.format ≠ .ksCw) (h : exec i s = .next t) :
    s.SameSched t := by
  cases i
  case ksReset | ksLoad | ksAdvance | ksHold => exact absurd rfl hfmt
  case pipeBadstate => cases h
  all_goals
    cases h
    exact ⟨rfl, rfl⟩

/-- A step whose selection is not of the scheduler's format leaves the standalone scheduler as it is. -/
theorem step_sameSched {s t : State} (hfmt : (s.driven.selection s.nextLine).format ≠ .ksCw) (h : step s = .next t) :
    s.SameSched t := by
  obtain ⟨i, hdec, hexec, -⟩ := step_next s t h
  have hsame := exec_sameSched (format_of_decode _ i hdec ▸ hfmt) hexec
  simpa [State.SameSched] using hsame

/-- R150: an edge of the core leaves the standalone scheduler as it is. -/
theorem step_core_sameSched {s t : State} (hcore : s.nextLine.clocksCore = true) (h : step s = .next t) :
    s.SameSched t := by
  refine step_sameSched ?_ h
  rw [selection_core s hcore]
  exact nofun

/-- R61, R150: an evaluation leaves the standalone scheduler as it is, for it names an operation that has no edge. -/
theorem step_eval_sameSched {s t : State} {i : Instr} (hline : s.nextLine = .eval i) (h : step s = .next t) :
    s.SameSched t := by
  obtain ⟨j, hdec, -, -⟩ := step_next s t h
  refine step_sameSched ?_ h
  rw [hline] at hdec ⊢
  obtain ⟨rfl, hfmt | hfmt⟩ := decode_named hdec <;> simp [State.selection, Selection.format, hfmt]

/-- Settles O37: a step writes registers of the unit whose line it takes only, and an evaluation of neither. -/
theorem instancesShareNoState : Obligations.InstancesShareNoState := by
  refine fun s t h => ⟨fun hcore => step_core_sameSched hcore h, fun hother => step_sameCore hother h,
    fun i hline => ⟨step_eval_sameSched hline h, step_sameCore ?_ h⟩⟩
  rw [hline]
  rfl

/-! # Proofs: which steps go on, and what they leave (R161, R160, R162, R122) -/

/-- Settles O38: the step at an edge that is not refused. -/
theorem stepRunsTheSelectedInstruction : Obligations.StepRunsTheSelectedInstruction :=
  fun _ _ => step_eq_exec

/-- Settles O39: the refusal by R161, and the state after a reset. -/
theorem unresetCoreTakesOnlyAReset : Obligations.UnresetCoreTakesOnlyAReset :=
  fun _ hunreset hcore => ⟨step_core_unreset hcore hunreset,
    fun hrst => ⟨_, step_core_reset hcore hrst, rfl, rfl, rfl, rfl⟩⟩

/-- A reader gets no value exactly when the register holds ⊥. -/
theorem read_eq_none_iff {w : Nat} (a : Reg w) : a.read = none ↔ a.held = false := by
  simp [Reg.read]

/-- Settles O40: the state after a reset at any state, in which `ct_reg` holds ⊥. -/
theorem resetWinsAtEveryState : Obligations.ResetWinsAtEveryState := by
  intro s hcore hrst
  have hstep := step_core_reset hcore hrst
  have hct : s.driven.resetCore.ctReg.held = false := by simp
  exact ⟨_, hstep, rfl, rfl, rfl, rfl, rfl, hct, (read_eq_none_iff _).mpr hct, rfl, step_core_sameSched hcore hstep⟩

/-- Settles O41: PIPE_IDLE keeps the state in which the line's levels stand on the ports. -/
theorem idleCoreKeepsItsState : Obligations.IdleCoreKeepsItsState :=
  fun s hreset hbusy hcore hrst hstart =>
    ⟨step_core_idle hcore hreset hrst hbusy hstart, sameCore_driven s, sameSched_driven s⟩

/-- Settles O42: PIPE_LOAD of the levels on the ports. -/
theorem idleCoreAcceptsStart : Obligations.IdleCoreAcceptsStart := by
  rintro s ⟨hreset, hbusy, hcore, hrst, hstart⟩
  exact step_core_load hcore hreset hrst hbusy hstart

/-- R161: no edge is refused once both units have been reset. -/
theorem edgeUnreset_of_reset {s : State} (hcore : s.coreReset = true) (hsched : s.schedReset = true) :
    s.driven.edgeUnreset s.nextLine = false := by
  cases s.nextLine <;> simp [State.edgeUnreset, hcore, hsched]

/-- Every instruction has a meaning. -/
theorem exec_ne_refused (i : Instr) (s : State) (r : Refusal) : exec i s ≠ .refused r := by
  cases i <;> exact nofun

/-- R61: only an `eval` line selects by name. -/
theorem selection_eq_named {s : State} {i : Instr} (h : s.driven.selection s.nextLine = .named i) :
    s.nextLine = .eval i := by
  cases hline : s.nextLine with
  | core p => simp [hline, State.selection] at h
  | bus rst ws => simp [hline, State.selection] at h
  | sched p => simp [hline, State.selection] at h
  | eval j =>
    rw [hline] at h
    cases h
    rfl

/-- Settles O45: the edge is not refused, the selection is decoded, no instruction is refused, and under INV no step
faults. -/
theorem legalStatesGoOn : Obligations.LegalStatesGoOn := by
  intro s hcore hsched hinv hnamed
  obtain ⟨i, hdec⟩ := exists_decode_eq_instr (s.driven.selection s.nextLine) fun i h =>
    hnamed i (selection_eq_named h)
  have hexec := step_eq_exec (edgeUnreset_of_reset hcore hsched) hdec
  obtain ⟨-, hnofault⟩ := pipeBadstateFaultsAndIsUnreachable
  cases hstep : step s with
  | next t => exact ⟨t, rfl⟩
  | fault f => exact absurd hstep (hnofault s f hinv)
  | refused r => exact absurd (hexec.symm.trans hstep) (exec_ne_refused i _ r)

/-! # Proofs: a published result (R20, R21, R23) -/

/-- Settles O47: the fields of the two states; INV holds in an idle core with its counter at 0, and before the first
reset it says nothing. -/
theorem resetStateIsAsTheSpecSays : Obligations.ResetStateIsAsTheSpecSays :=
  ⟨rfl, rfl, rfl, rfl, rfl, rfl, rfl, rfl, inv_of_idle rfl rfl, rfl, nofun⟩

/-- R21 speaks of the core's registers only. -/
theorem publishedInv_of_sameCore {s t : State} (hsame : s.SameCore t) (hpub : s.PublishedInv) : t.PublishedInv := by
  obtain ⟨hbusy, hdone, -, -, hct, -, hreset⟩ := hsame
  simpa only [State.PublishedInv, hbusy, hdone, hct, hreset] using hpub

/-- While `done = 0` nothing is claimed to be published. -/
theorem publishedInv_of_not_done {s : State} (hdone : s.done = false) : s.PublishedInv := by
  simp [State.PublishedInv, hdone]

/-- A busy core shows no result. -/
theorem done_of_busy {s : State} (hpub : s.PublishedInv) (hreset : s.coreReset = true) (hbusy : s.busy = true) :
    s.done = false := by
  by_contra hdone
  obtain ⟨hidle, -⟩ := hpub hreset (by simpa using hdone)
  simp [hbusy] at hidle

/-- PIPE_LAST of a busy core publishes a value, for INV says that the cipher state and the key are held. -/
theorem publishedInv_publish {s : State} (hinv : s.Inv) (hbusy : s.busy = true) : s.publish.PublishedInv := by
  intro hreset _
  obtain ⟨-, -, hheld⟩ := hinv hreset
  obtain ⟨hstate, hkey⟩ := hheld hbusy
  exact ⟨rfl, by simp [hstate, hkey]⟩

/-- Settles O48: PIPE_RESET and PIPE_LOAD clear `done`, PIPE_ROUND runs with `done = 0`, PIPE_LAST publishes a value,
and every other step leaves the core alone. -/
theorem stepKeepsPublishedInv : Obligations.StepKeepsPublishedInv := by
  intro s t hinv hpub h
  cases hcore : s.nextLine.clocksCore with
  | false => exact publishedInv_of_sameCore (step_sameCore hcore h) hpub
  | true =>
    obtain ⟨-, rfl⟩ | ⟨hreset, -, ⟨-, -, rfl⟩ | ⟨-, -, rfl⟩ | ⟨hbusy, -, -, rfl⟩ | ⟨hbusy, -, rfl⟩⟩ :=
      step_core_cases hcore h
    · exact publishedInv_of_not_done rfl
    · exact publishedInv_of_not_done rfl
    · exact publishedInv_of_sameCore (sameCore_driven s) hpub
    · exact publishedInv_of_not_done (by simpa using done_of_busy hpub hreset hbusy)
    · exact publishedInv_publish (inv_of_sameCore (sameCore_driven s) hinv) (by simpa using hbusy)

/-! # Proofs: results of two runs and of two requests in a row (R29, R44, R130) -/

/-- R128, R22: the ciphertext that a reader gets after the 32 edges of an encryption. -/
theorem run_ciphertext {s : State} (hload : s.AboutToLoad) (hlines : s.NoResetFor 32) :
    ∃ t, run 32 s = .next t ∧
      t.ciphertext = some (present80 s.driven.pipeIn.plaintext s.driven.keyOnPorts) := by
  obtain ⟨-, t, hrun, -, -, -, hct⟩ := latencyIs31EdgesAfterLoad s hload hlines
  exact ⟨t, hrun, hct⟩

/-- Settles O52: both ciphertexts are PRESENT80 of what was sampled. -/
theorem resultDependsOnlyOnTheSampledInputs : Obligations.ResultDependsOnlyOnTheSampledInputs := by
  intro s s' hload hload' hlines hlines' hkey hpt
  obtain ⟨t, hrun, hct⟩ := run_ciphertext hload hlines
  obtain ⟨t', hrun', hct'⟩ := run_ciphertext hload' hlines'
  exact ⟨t, t', hrun, hrun', by rw [hct, hct', hkey, hpt], by simp [hct]⟩

/-- Settles O53: PIPE_LAST leaves an idle core, which is about to load what stands on the ports at the next edge. -/
theorem heldStartRunsBackToBack : Obligations.HeldStartRunsBackToBack := by
  intro s p q ls hreset hbusy h31 hstim hp hq hstart
  have hline : s.nextLine = .core p := s.nextLine_cons _ _ hstim
  have hlast : step s = .next s.driven.publish :=
    step_core_last (by rw [hline]; rfl) hreset (by rw [s.driven_core p hline]; exact hp) hbusy h31
  have hline' : s.driven.publish.nextLine = .core q := State.nextLine_cons _ _ ls (by simp [hstim])
  have hdriven := s.driven.publish.driven_core q hline'
  have hload : s.driven.publish.AboutToLoad := by
    refine ⟨by simpa using hreset, rfl, by rw [hline']; rfl, ?_, ?_⟩ <;> rw [hdriven]
    · exact hq
    · exact hstart
  refine ⟨_, _, hlast, idleCoreAcceptsStart _ hload, rfl, rfl, rfl, rfl, rfl, State.driven_ctReg _, ?_, ?_⟩ <;>
    rw [hdriven]

/-! # Proofs: the words of the harness (R30, R34, R35) -/

/-- R30: STATUS is `busy`, extended by zeros. -/
theorem statusWord_eq (s : State) : s.statusWord = if s.busy then 1 else 0 := by
  rw [State.statusWord]
  cases s.busy <;> rfl

/-- R42: the two words of a block are the whole of it. -/
theorem firstWord_append_secondWord (v : Block) : firstWord v ++ secondWord v = v := by
  rw [firstWord, secondWord, BitVec.extractLsb'_append_extractLsb'_eq_extractLsb' (by decide),
    BitVec.extractLsb'_eq_self]

/-- Settles O56: STATUS is `busy`; CT0 and CT1 are the words of what a reader of `ct_reg` gets. -/
theorem harnessReadsStatusAndCiphertext : Obligations.HarnessReadsStatusAndCiphertext := by
  refine fun s => ⟨congrArg some (statusWord_eq s), fun _ => rfl, fun hheld => ?value, fun hbottom => ?bottom⟩
  case value =>
    have hread : s.ciphertext = some s.ctReg.value := (Reg.read_eq_some _ _).mpr ⟨hheld, rfl⟩
    exact ⟨firstWord s.ctReg.value, secondWord s.ctReg.value, by simp [State.readHarness, hread],
      by simp [State.readHarness, hread], firstWord_append_secondWord _⟩
  case bottom =>
    have hread : s.ciphertext = none := (read_eq_none_iff _).mpr hbottom
    simp [State.readHarness, hread]

/-- R35: a word that the harness writes reads back. -/
theorem readHarness_write_same (s : State) {r : HarnessReg} (v : HarnessWord) (hstatus : r ≠ .status) (hct0 : r ≠ .ct0)
    (hct1 : r ≠ .ct1) : ({ s with harness := s.harness.write r v } : State).readHarness r = some v := by
  cases r
  case status => exact absurd rfl hstatus
  case ct0 => exact absurd rfl hct0
  case ct1 => exact absurd rfl hct1
  all_goals rfl

/-- R35: a write leaves every other word as it is. The core's three words do not show what the harness writes. -/
theorem readHarness_write_of_ne (s : State) {r q : HarnessReg} (v : HarnessWord) (hne : q ≠ r) :
    ({ s with harness := s.harness.write r v } : State).readHarness q = s.readHarness q := by
  cases q
  case status | ct0 | ct1 => rfl
  all_goals
    cases r
    all_goals simp [State.readHarness, Harness.write] at hne ⊢

/-- Settles O57: a write to a word of the core does nothing, and to another word it changes that one only. -/
theorem harnessWritesOnlyItsOwnWords : Obligations.HarnessWritesOnlyItsOwnWords := by
  refine fun s r q v => ⟨?_, readHarness_write_same s v, readHarness_write_of_ne s v⟩
  rintro (rfl | rfl | rfl) <;> rfl

end Sys2Proof.Machine
